-- ==== Sys2Proof/Word.lean ====
section
/-! DEFINITION. The three word widths the links carry (spec 09, section 9.7): octets, 16-bit values and 32-bit
values. Everything the manual gives as a plain quantity (offsets, counts, doses, levels) is a `Nat` in the model;
32-bit counters, row numbers and time tags wrap (spec 00, Conventions) and are `Word`s. -/

namespace Sys2Proof

/-- One octet of a frame or of the stored image. -/
abbrev Octet := BitVec 8

/-- A two-octet value of a payload. -/
abbrev Half := BitVec 16

/-- A 32-bit counter, row number or time tag; its arithmetic is modulo 2 to the power 32 (spec 00, Counters). -/
abbrev Word := BitVec 32

end Sys2Proof
end

