-- ==== Sys2Proof/Config.lean ====
section
/-! DEFINITION. The sizes the part is built with, and the two values the manual leaves open, as free values. -/

namespace Sys2Proof.Config

/-- Requests an inbound queue holds (R145). -/
abbrev inboundSize : Nat := 16

/-- Messages, with reserved entries, an outbound queue holds (R147). -/
abbrev outboundSize : Nat := 8

/-- Retire records the trace queue holds (R132). -/
abbrev traceSize : Nat := 256

/-- The longest payload a frame may carry, in octets (R143). -/
abbrev maxPayload : Nat := 128

/-- Octets of the stored image's address range, 0 to 2047 (R167). -/
abbrev imageSize : Nat := 2048

/-- Milliseconds without an octet after which an UP link is declared DOWN (R142). -/
abbrev linkDownMs : Nat := 10

/-- Where the index filter's time since the last accepted pulse stops (R11). -/
abbrev sinceLastStop : Nat := 2000

/-- Strikes of one station on one card that are accepted (R80). -/
abbrev strikeLimit : Nat := 4

/-- FREE VALUE (log entry 6). The tag octet of the n-th frame that answers no request (BRIEF, CREDIT, ATTENTION):
section 9.7 gives every frame a tag octet and no rule states its value in these three kinds. It has no body, so
nothing can be proved of its value. -/
opaque unsolicitedTag : Nat → Octet

/-- FREE VALUE (log entry 7). The bits that the layouts of section 9.7 do not name, in octet i of the payload of the n-th
frame sent. It has no body, so nothing can be proved of its value. -/
opaque unnamedBits (n i : Nat) : Octet

end Sys2Proof.Config
end

