-- ==== Sys2Proof/Syntax.lean ====
section
/-! DEFINITION. The commands of the part: one constructor of `Instr` for each row of spec/opcode_table.json, with the
operands the rules name (the table itself gives no fields). Arguments of requests are RAW, the octets and 16-bit and
32-bit values of section 9.7 as a frame carries them, so that every range check and clamp is the application's work. -/

namespace Sys2Proof

/-- The eight station link ports (spec 09). -/
inductive Port where
  | p0 | p1 | p2 | p3 | p4 | p5 | p6 | p7
  deriving DecidableEq, Repr

/-- One (cavity, count) pair of a PLACEMENT as carried (R70, section 9.7). -/
structure PlacePair where
  cavity : Octet
  count : Octet
  deriving DecidableEq, Repr

/-- One entry of an INSPECTION as carried (R74, section 9.7). -/
structure InspectEntry where
  cavity : Octet
  classSeen : Octet
  count : Octet
  orientation : Octet
  deriving DecidableEq, Repr

/-- A station entry of 6 octets as carried (section 9.7). -/
structure StationArg where
  role : Octet
  offset : Octet
  window : Octet
  required : Octet
  mode : Octet
  perms : Octet
  deriving DecidableEq, Repr

/-- A cavity entry of a recipe, 6 octets in the order of R49, as carried (section 9.7). -/
structure CavityArg where
  cls : Octet
  required : Octet
  overTol : Octet
  feeder : Octet
  verify : Octet
  orient : Octet
  deriving DecidableEq, Repr

/-- A recipe entry of 15 octets in the order of R48, with its cavity entries, as carried (section 9.7). -/
structure RecipeArg where
  valid : Octet
  customer : Half
  laneMask : Octet
  cavityCount : Octet
  recover : Octet
  refillLimit : Octet
  tAct : Half
  dMin : Half
  dMax : Half
  pMin : Half
  cavities : List CavityArg
  deriving DecidableEq, Repr

/-- The body of a request (section 9.7): five posted reports, then the queries and commands in the order of R155's
table, which is the order of their kind octets. -/
inductive ReqBody where
  | formResult (row : Word) (lane splice : Octet) (outcomes : List Octet)
  | placement (row : Word) (lane : Octet) (pairs : List PlacePair)
  | inspection (row : Word) (lane : Octet) (entries : List InspectEntry)
  | sealHit (row : Word) (lane sealed : Octet) (temperature dwell pressure : Half)
  | discharge (row : Word) (lane outcome : Octet)
  | start
  | stopForming
  | selectRecipe (id : Octet)
  | purge
  | condemn (firstRow : Word) (rowCount laneMask : Octet)
  | releaseHold
  | stationModeSet (target mode : Octet)
  | stationWrite (target : Octet) (entry : StationArg)
  | recipeWrite (id : Octet) (recipe : RecipeArg)
  | indexIntervalSet (interval : Half)
  | traceLevelsSet (notify hold : Half)
  | arbiterWrite (phases : Vector Octet 32)
  | retireRead (count : Octet)
  | lineStatus
  | stationRead (target : Octet)
  | recipeRead (id : Octet)
  | cardQuery (row : Word) (lane : Octet)
  | rowQuery (offset : Octet)
  | traceStatus
  | countersRead (target : Octet)
  | arbiterRead
  | attnStatusRead
  | attnEnableSet (conditions : Half)
  | attnEnableClear (conditions : Half)
  | attnClear (conditions : Half)
  deriving DecidableEq, Repr

/-- A posted request is a report; it is answered only when it is refused (spec 00, Terms; spec 09, section 9.4). -/
def ReqBody.posted : ReqBody → Bool
  | .formResult .. | .placement .. | .inspection .. | .sealHit .. | .discharge .. => true
  | _ => false

/-- A request in an inbound queue (R145): its tag, which the part only echoes (R63), and its body. -/
structure InReq where
  tag : Octet
  body : ReqBody
  deriving DecidableEq, Repr

/-- A request as the request engine holds it (R153), with the port it came from. -/
structure Request where
  port : Port
  tag : Octet
  body : ReqBody
  deriving DecidableEq, Repr

/-- The commands, one constructor per row of spec/opcode_table.json, in the table's order.
A request's row (FORM_RESULT to ATTN_CLEAR but for TIME_TAG_TICK and IDLE_FILL_RECEIVE) is the APPLICATION of that
request by the request engine (R153), named by the request's port, tag and arguments. -/
inductive Instr where
  /-- RESET_N goes low, or power-on (R165). -/
  | masterReset
  /-- RESET_N returns high (R165). -/
  | resetRelease
  /-- The signature read ends (R167): the octets the EEPROM acknowledged, none if it is absent. -/
  | autoloadSignatureRead (octets : List Octet)
  /-- The read of one block ends (R168): the octets the EEPROM acknowledged from the block's type octet on. -/
  | autoloadBlockRead (octets : List Octet)
  /-- The type octet read is 00h, the terminator (R170). -/
  | autoloadTerminator
  /-- A rising edge on INDEX (R12). -/
  | indexPulse
  /-- The work of one accepted index (R13, R15). -/
  | advance
  /-- A frame ends on a port (R143): the octets received between its two flags, still escaped. -/
  | frameReceive (port : Port) (octets : List Octet)
  /-- 10 ms have passed with no octet received (R142, R144). -/
  | linkDown (port : Port)
  /-- The transmitter takes up the oldest queued message (R146). -/
  | frameSendStart (port : Port)
  /-- The last octet of the frame being sent has gone (R147). -/
  | frameSendComplete (port : Port)
  /-- The arbiter grants one request to a free engine (R151). -/
  | arbiterGrant
  | formResult (port : Port) (tag : Octet) (row : Word) (lane splice : Octet) (outcomes : List Octet)
  | placement (port : Port) (tag : Octet) (row : Word) (lane : Octet) (pairs : List PlacePair)
  | inspection (port : Port) (tag : Octet) (row : Word) (lane : Octet) (entries : List InspectEntry)
  | sealHit (port : Port) (tag : Octet) (row : Word) (lane sealed : Octet) (temperature dwell pressure : Half)
  | discharge (port : Port) (tag : Octet) (row : Word) (lane outcome : Octet)
  | start (port : Port) (tag : Octet)
  | stopForming (port : Port) (tag : Octet)
  | selectRecipe (port : Port) (tag : Octet) (id : Octet)
  | purge (port : Port) (tag : Octet)
  | condemn (port : Port) (tag : Octet) (firstRow : Word) (rowCount laneMask : Octet)
  | releaseHold (port : Port) (tag : Octet)
  | stationModeSet (port : Port) (tag : Octet) (target mode : Octet)
  | stationWrite (port : Port) (tag : Octet) (target : Octet) (entry : StationArg)
  | recipeWrite (port : Port) (tag : Octet) (id : Octet) (recipe : RecipeArg)
  | indexIntervalSet (port : Port) (tag : Octet) (interval : Half)
  | traceLevelsSet (port : Port) (tag : Octet) (notify hold : Half)
  | arbiterWrite (port : Port) (tag : Octet) (phases : Vector Octet 32)
  | retireRead (port : Port) (tag : Octet) (count : Octet)
  | lineStatus (port : Port) (tag : Octet)
  | stationRead (port : Port) (tag : Octet) (target : Octet)
  | recipeRead (port : Port) (tag : Octet) (id : Octet)
  | cardQuery (port : Port) (tag : Octet) (row : Word) (lane : Octet)
  | rowQuery (port : Port) (tag : Octet) (offset : Octet)
  | traceStatus (port : Port) (tag : Octet)
  | countersRead (port : Port) (tag : Octet) (target : Octet)
  | arbiterRead (port : Port) (tag : Octet)
  | attnStatusRead (port : Port) (tag : Octet)
  | attnEnableSet (port : Port) (tag : Octet) (conditions : Half)
  | attnEnableClear (port : Port) (tag : Octet) (conditions : Half)
  | attnClear (port : Port) (tag : Octet) (conditions : Half)
  /-- One millisecond of CLK (R10, R11). -/
  | timeTagTick
  /-- An octet of idle fill is received on a port (R142). -/
  | idleFillReceive (port : Port)
  deriving DecidableEq, Repr

end Sys2Proof
end

