-- ==== Sys2Proof/Decode.lean ====
section
/-! DEFINITION. The command a table word spells. No row of spec/opcode_table.json gives bits ("fixed" and "fields" are
empty in all 44), so no word spells a command. The octets that do spell requests are the frames of section 9.7, read
in Machine/Frames.lean. -/

namespace Sys2Proof

/-- The command whose table bits are `w`: none, for the table gives no row any bits. -/
def decodeTableWord (_nbits _w : Nat) : Option Instr := none

end Sys2Proof
end

