-- ==== Sys2Proof/Machine/State.lean ====
section
/-! DEFINITION. The state of the part as plain data: every table, record, queue, counter, latch and mark the spec names,
with the values of master reset (R165). What the spec gives as a function of other state (HOLD, TRACE_READY, the hold
condition, the status sets, the slots of the ring) is computed where it is read (Machine/Flags.lean, Machine/Ops.lean)
and stored once. -/

namespace Sys2Proof

/-- The ports P0 to P7 in order. -/
def Port.all : List Port := [.p0, .p1, .p2, .p3, .p4, .p5, .p6, .p7]

namespace Machine

/-- One value for each port. -/
structure PerPort (α : Type) where
  v0 : α
  v1 : α
  v2 : α
  v3 : α
  v4 : α
  v5 : α
  v6 : α
  v7 : α
  deriving DecidableEq, Repr

/-- The value of one port. -/
def PerPort.get {α : Type} (v : PerPort α) : Port → α
  | .p0 => v.v0 | .p1 => v.v1 | .p2 => v.v2 | .p3 => v.v3
  | .p4 => v.v4 | .p5 => v.v5 | .p6 => v.v6 | .p7 => v.v7

/-- The values with one port's replaced. -/
def PerPort.set {α : Type} (v : PerPort α) (p : Port) (x : α) : PerPort α :=
  match p with
  | .p0 => { v with v0 := x } | .p1 => { v with v1 := x } | .p2 => { v with v2 := x } | .p3 => { v with v3 := x }
  | .p4 => { v with v4 := x } | .p5 => { v with v5 := x } | .p6 => { v with v6 := x } | .p7 => { v with v7 := x }

/-- The value that `f` gives each port. -/
def PerPort.ofFn {α : Type} (f : Port → α) : PerPort α :=
  ⟨f .p0, f .p1, f .p2, f .p3, f .p4, f .p5, f .p6, f .p7⟩

/-- One value for every port. -/
def PerPort.all {α : Type} (x : α) : PerPort α := PerPort.ofFn fun _ => x

/-! ### Station table (spec 02) -/

/-- The eight roles (R27). -/
inductive Role where
  | unassigned | form | feed | inspect | topup | seal | punch | supervisor
  deriving DecidableEq, Repr

/-- A station's mode (R27). -/
inductive Mode where
  | offline | active
  deriving DecidableEq, Repr

/-- The permission set of an entry (R27). -/
structure Perms where
  operate : Bool
  config : Bool
  trace : Bool
  deriving DecidableEq, Repr

/-- One station table entry (R27). -/
structure Station where
  role : Role
  offset : Nat
  window : Nat
  required : Bool
  mode : Mode
  perms : Perms
  deriving DecidableEq, Repr

/-! ### Recipe table (spec 03) -/

/-- One entry of a recipe's cavity list (R49). -/
structure CavitySpec where
  cls : Nat
  required : Nat
  overTol : Nat
  feeder : Option Port
  verify : Bool
  orient : Bool
  deriving DecidableEq, Repr

/-- One recipe entry (R48). The cavity count of R48 is the length of `cavities` (R49, log entry 24). -/
structure Recipe where
  valid : Bool
  customer : Half
  laneMask : BitVec 4
  recover : Bool
  refillLimit : Nat
  tAct : Nat
  dMin : Nat
  dMax : Nat
  pMin : Nat
  cavities : List CavitySpec
  deriving DecidableEq, Repr

/-- A recipe ID (R47). -/
abbrev RecipeId := Fin 16

/-! ### The row, card and cavity records (spec 01, section 1.5) -/

/-- A cavity's form outcome (R25, R67). -/
inductive FormOutcome where
  | good | thin | notFormed
  deriving DecidableEq, Repr

/-- An inspected orientation (R74). -/
inductive Orientation where
  | ok | reversed | undetermined
  deriving DecidableEq, Repr

/-- One entry of a placement list (R25). -/
structure Placement where
  station : Port
  count : Nat
  deriving DecidableEq, Repr

/-- An inspection record (R25). -/
structure Inspection where
  station : Port
  classSeen : Nat
  count : Nat
  orientation : Orientation
  deriving DecidableEq, Repr

/-- A cavity's last refill outcome, when present (R92). -/
inductive RefillOutcome where
  | ordered | placed | notDelivered | noReport
  deriving DecidableEq, Repr

/-- A cavity record (R25). -/
structure Cavity where
  form : Option FormOutcome
  placements : List Placement
  inspection : Option Inspection
  attempts : Nat
  refill : Option RefillOutcome
  orderedBy : Option Port
  count : Nat
  deriving DecidableEq, Repr

/-- The state of a card (R23): OPEN, JUDGED or FROZEN. -/
inductive CardState where
  | opened | judged | frozen
  deriving DecidableEq, Repr

/-- The thirteen condemn reasons (section 7.1). -/
inductive Reason where
  | splice | formFault | noReport | wrongItem | orientation | overCount | shortCount | refillExhausted | notInspected
  | sealPressure | sealLow | sealHigh | operator
  deriving DecidableEq, Repr

/-- A verdict, when present (R118). -/
inductive Verdict where
  | pass | reject
  deriving DecidableEq, Repr

/-- A discharge, when present (R22). -/
inductive Discharge where
  | goodChute | rejectChute | jammed | unknown
  deriving DecidableEq, Repr

/-- The seal summary (R102). -/
structure Seal where
  hits : Nat
  dose : Nat
  saturated : Bool
  clamped : Bool
  minPressure : Option Nat
  inhibited : Bool
  deriving DecidableEq, Repr

/-- A card record (R22) with its strike tallies (R80). -/
structure Card where
  lane : Fin 4
  state : CardState
  reason : Option Reason
  station : Option Port
  condemnOffset : Option Nat
  summary : Seal
  tallies : PerPort Nat
  verdict : Option Verdict
  discharge : Option Discharge
  reported : PerPort Bool
  cavities : List Cavity
  deriving DecidableEq, Repr

/-- A row record (R21). -/
structure Row where
  number : Word
  offset : Nat
  recipe : RecipeId
  laneMask : BitVec 4
  formed : Word
  cards : List Card
  deriving DecidableEq, Repr

/-! ### The retire record and the fault record (spec 07, 08) -/

/-- A retire record (R130). -/
structure RetireRecord where
  row : Word
  lane : Fin 4
  recipe : RecipeId
  customer : Half
  verdict : Verdict
  reason : Option Reason
  station : Option Port
  discharge : Option Discharge
  formed : Word
  retired : Word
  summary : Seal
  counts : List Nat
  attempts : List Nat
  deriving DecidableEq, Repr

/-- The fault record held with the discharge-fault latch (R124). -/
structure FaultRecord where
  row : Word
  lane : Fin 4
  discharge : Option Discharge
  deriving DecidableEq, Repr

/-! ### Messages (spec 09) -/

/-- The line states (R1). -/
inductive LineState where
  | idle | run | drain
  deriving DecidableEq, Repr

/-- The two states of a port's link (R142). -/
inductive Link where
  | down | up
  deriving DecidableEq, Repr

/-- A condition set: bits 0 to 11 for the twelve members of section 10.1 (section 9.7). -/
abbrev CondSet := BitVec 12

/-- The refusal codes (R156). -/
inductive Code where
  | notReady | unknownRow | early | late | forbidden | offline | malformed | badValue | inUse | lineActive
  | configInvalid | recipeInvalid
  deriving DecidableEq, Repr

/-- One card of a FEED brief (R87): the cavities fed by the station, each with number, required count and class. -/
structure FeedCard where
  lane : Fin 4
  condemned : Bool
  cavities : List (Nat × Nat × Nat)
  deriving DecidableEq, Repr

/-- One cavity of an INSPECT brief (R88). -/
structure InspectCavity where
  cls : Nat
  verify : Bool
  orient : Bool
  required : Nat
  count : Nat
  deriving DecidableEq, Repr

/-- One card of an INSPECT brief (R88). -/
structure InspectCard where
  lane : Fin 4
  condemned : Bool
  cavities : List InspectCavity
  deriving DecidableEq, Repr

/-- One refill order line (R89, R91). -/
structure OrderLine where
  lane : Fin 4
  cavity : Nat
  missing : Nat
  cls : Nat
  deriving DecidableEq, Repr

/-- One card of a SEAL brief (R111). -/
structure SealCard where
  lane : Fin 4
  condemned : Bool
  inhibited : Bool
  hits : Nat
  dose : Nat
  saturated : Bool
  deriving DecidableEq, Repr

/-- One card of a PUNCH brief (R119). -/
structure PunchCard where
  lane : Fin 4
  verdict : Verdict
  reason : Option Reason
  inhibited : Bool
  deriving DecidableEq, Repr

/-- The briefs (R154). -/
inductive Brief where
  | form (row : Word) (recipe : RecipeId) (laneMask : BitVec 4) (cavityCount : Nat) (formed : Word)
  | feed (row : Word) (recipe : RecipeId) (laneMask : BitVec 4) (cards : List FeedCard)
  | inspect (row : Word) (recipe : RecipeId) (laneMask : BitVec 4) (cards : List InspectCard)
  | topup (row : Word) (recipe : RecipeId) (lines : List OrderLine)
  | seal (row : Word) (recipe : RecipeId) (tAct pMin dMin dMax : Nat) (cards : List SealCard)
  | punch (row : Word) (recipe : RecipeId) (cards : List PunchCard)
  deriving DecidableEq, Repr

/-- What LINE_STATUS reports (R20). -/
structure LineReport where
  line : LineState
  indexCount : Word
  lastIndex : Option Word
  timeTag : Word
  interval : Nat
  selected : Option RecipeId
  exitOffset : Option Nat
  sealOffset : Option Nat
  rowCount : Nat
  ends : Option (Word × Word)
  useCounts : Vector Nat 16
  deriving DecidableEq, Repr

/-- What STATION_READ reports of one port (R28). -/
structure StationReport where
  port : Port
  entry : Station
  link : Link
  deriving DecidableEq, Repr

/-- What CARD_QUERY reports (R128): the row's number, offset and recipe, the card record, and the strike tallies of the
lower and the higher SEAL port (section 9.7). -/
structure CardReport where
  row : Word
  offset : Nat
  recipe : RecipeId
  card : Card
  lowTally : Option Nat
  highTally : Option Nat
  deriving DecidableEq, Repr

/-- What ROW_QUERY reports of one card (R129). -/
structure RowCard where
  lane : Fin 4
  state : CardState
  verdict : Option Verdict
  reason : Option Reason
  deriving DecidableEq, Repr

/-- What TRACE_STATUS reports (R139). -/
structure TraceReport where
  occupancy : Nat
  free : Nat
  notify : Nat
  holdLevel : Nat
  ready : Bool
  hold : Bool
  oldest : Option (Word × Fin 4)
  deriving DecidableEq, Repr

/-- The RESPONSEs, one per query or command (section 9.7). -/
inductive Response where
  | start (line : LineState) (exitOffset sealOffset : Option Nat)
  | stopForming (line : LineState)
  | selectRecipe (id : RecipeId)
  | purge (rows cards : Nat)
  | condemn (rows condemned notApplied : Nat)
  | releaseHold (fault : Option FaultRecord)
  | stationModeSet (port : Port) (mode : Mode)
  | stationWrite (port : Port) (entry : Station)
  | recipeWrite (id : RecipeId) (recipe : Recipe) (useCount : Nat)
  | indexIntervalSet (interval : Nat)
  | traceLevelsSet (notify holdLevel occupancy : Nat)
  | arbiterWrite (phases : Vector Port 32)
  | retireRead (occupancy : Nat) (records : List RetireRecord)
  | lineStatus (report : LineReport)
  | stationRead (entries : List StationReport)
  | recipeRead (id : RecipeId) (recipe : Recipe) (useCount : Nat) (selected : Bool)
  | cardQuery (report : CardReport)
  | rowQuery (row : Word) (offset : Nat) (recipe : RecipeId) (laneMask : BitVec 4) (formed : Word) (cards : List RowCard)
  | traceStatus (report : TraceReport)
  | countersRead (counters : List Word)
  | arbiterRead (phases : Vector Port 32) (phase : Fin 32)
  | attnStatusRead (status enables masked : CondSet)
  | attnEnableSet (enables masked : CondSet)
  | attnEnableClear (enables masked : CondSet)
  | attnClear (status masked : CondSet)
  deriving DecidableEq, Repr

/-- A message in an outbound queue (R147, R148). A RESPONSE and a REFUSAL carry the request's tag (R63, R156; log entry
9); a REFUSAL also its kind octet, the code and the detail value. -/
inductive Message where
  | response (tag : Octet) (answer : Response)
  | refusal (tag kind : Octet) (code : Code) (detail : Nat)
  | brief (brief : Brief)
  | credit
  | attention
  deriving DecidableEq, Repr

/-- A frame whose sending has begun: header and payload as stamped (R146, section 9.7). -/
structure OutFrame where
  kind : Octet
  tag : Octet
  credit : Octet
  payload : List Octet
  deriving DecidableEq, Repr

/-- One port block with its attention unit (spec 09, 10). -/
structure PortBlock where
  link : Link
  /-- milliseconds since an octet was received on an UP link, stopping at 10 (R142, log entry 11) -/
  quiet : Nat
  inbound : List InReq
  outbound : List Message
  /-- entries of the outbound queue reserved for answers (R147) -/
  reserved : Nat
  sending : Option OutFrame
  /-- the credit state (R146) -/
  credit : Nat
  /-- the pending-attention mark (R149) -/
  attnPending : Bool
  /-- the latched events of the status set (R158) -/
  latched : CondSet
  /-- the enable set (R159) -/
  enables : CondSet
  linkErrors : Word
  inboundOverruns : Word
  briefLost : Word
  refusalLost : Word
  deriving DecidableEq, Repr

/-- The load state of the autoload unit (R166). -/
inductive LoadState where
  | loading | ready
  deriving DecidableEq, Repr

/-- Why the machine stops. -/
inductive Fault where
  /-- Raised by ADVANCE when a row is to be formed in RUN and no recipe is selected. R18: "In RUN the selected recipe is
  always valid", so no run of the part reaches it (log entry 18). Safe: the model stops where the spec gives nothing. -/
  | formationWithoutRecipe
  deriving DecidableEq, Repr

/-- Why a command has no meaning. -/
inductive Refusal where
  /-- Raised by `exec` for a row of the table that has no meaning yet, by its mnemonic. Safe: nothing is claimed of it. -/
  | notModelled (mnemonic : String)
  deriving DecidableEq, Repr

/-- The state of the part. -/
structure State where
  /-- the commands that wait, first in first out; the model's own (log entry 1) -/
  pending : List Instr
  /-- RESET_N is low (R165) -/
  resetHeld : Bool
  line : LineState
  /-- the rows on the map, oldest first (R19, log entry 13) -/
  rows : List Row
  /-- E (R5) -/
  exitOffset : Option Nat
  /-- S1 (R5) -/
  sealOffset : Option Nat
  indexCount : Word
  lastIndex : Option Word
  /-- accepted indexes whose advance has not been taken (R13, log entry 12) -/
  advancesDue : Nat
  timeTag : Word
  /-- the minimum index interval (R11) -/
  interval : Nat
  /-- the index filter's time since the last accepted pulse, or no last pulse (R11, R12) -/
  sinceLast : Option Nat
  cardsFormed : Word
  cardsPurged : Word
  indexGlitches : Word
  stations : PerPort Station
  recipes : Vector Recipe 16
  useCounts : Vector Nat 16
  selected : Option RecipeId
  /-- the trace queue, oldest first (R132) -/
  trace : List RetireRecord
  notify : Nat
  holdLevel : Nat
  cardsDropped : Word
  cardsRead : Word
  goodLost : Word
  goodUnconfirmed : Word
  /-- the discharge-fault latch: set exactly when the fault record is present (R124, log entry 14) -/
  fault : Option FaultRecord
  ports : PerPort PortBlock
  arbiter : Vector Port 32
  /-- the phase pointer (R151) -/
  phase : Fin 32
  /-- the request in service (R153) -/
  engine : Option Request
  load : LoadState
  /-- the EEPROM address the autoload unit reads next; 0 until the signature is read (R167) -/
  loadAddr : Nat
  /-- the selected-recipe block held until the terminator (R168) -/
  loadSelected : Option Octet
  /-- how many frames have begun to be sent, the number by which a frame's free values are chosen; the model's own (log
  entries 6 and 7) -/
  freeCount : Nat
  deriving DecidableEq, Repr

/-! ### The values of master reset -/

/-- The default station entry of a port other than P7 (R27). -/
def Station.default : Station := ⟨.unassigned, 0, 1, false, .offline, ⟨false, false, false⟩⟩

/-- The default entry of P7 (R27). -/
def Station.supervisor : Station := ⟨.supervisor, 0, 1, false, .active, ⟨true, true, true⟩⟩

/-- The default station table (R27). -/
def defaultStations : PerPort Station := (PerPort.all Station.default).set .p7 Station.supervisor

/-- The default recipe entry (R47). -/
def Recipe.default : Recipe :=
  ⟨false, 0, 1, false, 0, 0, 0, 0, 0, [⟨1, 1, 0, none, false, false⟩]⟩

/-- The default recipe table (R47). -/
def defaultRecipes : Vector Recipe 16 := Vector.replicate 16 Recipe.default

/-- The default arbiter table: phase i names port i mod 8 (R151). -/
def defaultArbiter : Vector Port 32 :=
  #v[.p0, .p1, .p2, .p3, .p4, .p5, .p6, .p7, .p0, .p1, .p2, .p3, .p4, .p5, .p6, .p7,
     .p0, .p1, .p2, .p3, .p4, .p5, .p6, .p7, .p0, .p1, .p2, .p3, .p4, .p5, .p6, .p7]

/-- The default minimum index interval (R11). -/
def defaultInterval : Nat := 100

/-- The default notify level (R134). -/
def defaultNotify : Nat := 64

/-- The default hold level (R134). -/
def defaultHoldLevel : Nat := 16

/-- A port block at master reset (section 9.6, State of a port after each reset; R158, R159). -/
def PortBlock.default : PortBlock where
  link := .down
  quiet := 0
  inbound := []
  outbound := []
  reserved := 0
  sending := none
  credit := Config.inboundSize
  attnPending := false
  latched := 0
  enables := 0
  linkErrors := 0
  inboundOverruns := 0
  briefLost := 0
  refusalLost := 0

/-- The part at master reset, RESET_N low (R165): every block at the value its chapter states. -/
def State.reset : State where
  pending := []
  resetHeld := true
  line := .idle
  rows := []
  exitOffset := none
  sealOffset := none
  indexCount := 0
  lastIndex := none
  advancesDue := 0
  timeTag := 0
  interval := defaultInterval
  sinceLast := none
  cardsFormed := 0
  cardsPurged := 0
  indexGlitches := 0
  stations := defaultStations
  recipes := defaultRecipes
  useCounts := Vector.replicate 16 0
  selected := none
  trace := []
  notify := defaultNotify
  holdLevel := defaultHoldLevel
  cardsDropped := 0
  cardsRead := 0
  goodLost := 0
  goodUnconfirmed := 0
  fault := none
  ports := PerPort.all PortBlock.default
  arbiter := defaultArbiter
  phase := 0
  engine := none
  load := .loading
  loadAddr := 0
  loadSelected := none
  freeCount := 0

end Machine
end Sys2Proof
end

