-- ==== Sys2Proof/Machine/Flags.lean ====
section
/-! DEFINITION. The conditions and events of the attention units (spec 10, sections 10.1 to 10.3), the two trace
conditions (R135) and the HOLD output (R163), each computed from the state its rule names. -/

namespace Sys2Proof.Machine

/-- A latched event of section 10.1. -/
inductive Event where
  | traceOverrun | lineState | indexGlitch | jam | loadFault | briefLost | refusalLost | inboundOverrun | linkError
  deriving DecidableEq, Repr

/-- The member of the condition set that an event is: bits 3 to 11 (section 9.7). -/
def eventBit : Event → CondSet
  | .traceOverrun => 0x008
  | .lineState => 0x010
  | .indexGlitch => 0x020
  | .jam => 0x040
  | .loadFault => 0x080
  | .briefLost => 0x100
  | .refusalLost => 0x200
  | .inboundOverrun => 0x400
  | .linkError => 0x800

/-- The members that are latched events, bits 3 to 11. -/
def eventMembers : CondSet := 0xFF8

/-- The free space of the trace queue (R132). -/
def State.traceFree (s : State) : Nat := Config.traceSize - s.trace.length

/-- TRACE_READY: the occupancy is at least the notify level (R135). -/
def State.traceReady (s : State) : Bool := s.notify ≤ s.trace.length

/-- The hold condition: the free space is less than the hold level (R135). -/
def State.holdCondition (s : State) : Bool := s.traceFree < s.holdLevel

/-- The HOLD output: the hold condition or the discharge-fault latch (R163). -/
def State.hold (s : State) : Bool := s.holdCondition || s.fault.isSome

/-- The state conditions that are true: bits 0 to 2 for TRACE_READY, HOLD and DISCHARGE_FAULT (R158, section 9.7). -/
def State.conditions (s : State) : CondSet :=
  (if s.traceReady then 0x001 else 0) ||| (if s.hold then 0x002 else 0) ||| (if s.fault.isSome then 0x004 else 0)

/-- The block of one port. -/
def State.port (s : State) (p : Port) : PortBlock := s.ports.get p

/-- A port's status set: the state conditions that are true and the latched events (R158). -/
def State.statusSet (s : State) (p : Port) : CondSet := s.conditions ||| (s.port p).latched

/-- A port's masked status: the members present in both sets (section 10.1). -/
def State.masked (s : State) (p : Port) : CondSet := s.statusSet p &&& (s.port p).enables

/-- Raising an event on a port latches it; raising one already present changes nothing (R158). -/
def latch (e : Event) (b : PortBlock) : PortBlock := { b with latched := b.latched ||| eventBit e }

end Sys2Proof.Machine
end

