-- ==== Sys2Proof/Machine/Octets.lean ====
section
/-! DEFINITION. Octet order and bit packing of section 9.7: multi-octet values go high octet first. The bits of
a packed octet that a layout does not name are marked, and are free values when a frame is sent (log entry 7). -/

namespace Sys2Proof.Machine

/-- The 16-bit value of two octets, high octet first (section 9.7). -/
def half (hi lo : Octet) : Half := hi ++ lo

/-- The 32-bit value of four octets, high octet first (section 9.7). -/
def word (a b c d : Octet) : Word := a ++ b ++ c ++ d

/-- The two octets of a 16-bit value, high octet first (section 9.7). -/
def halfOctets (h : Half) : List Octet := [h.extractLsb' 8 8, h.extractLsb' 0 8]

/-- The four octets of a 32-bit value, high octet first (section 9.7). -/
def wordOctets (w : Word) : List Octet :=
  [w.extractLsb' 24 8, w.extractLsb' 16 8, w.extractLsb' 8 8, w.extractLsb' 0 8]

/-- A quantity in one octet. -/
def octet (n : Nat) : Octet := BitVec.ofNat 8 n

/-- A quantity in two octets, high octet first. -/
def natHalf (n : Nat) : List Octet := halfOctets (BitVec.ofNat 16 n)

/-- An octet as a layout of section 9.7 gives it: its value, and the bits that the layout does not name. -/
structure OutOctet where
  value : Octet
  unnamed : Octet
  deriving DecidableEq, Repr

/-- Octets whose every bit is named. -/
def named (l : List Octet) : List OutOctet := l.map fun o => ⟨o, 0⟩

/-- A packed octet, with the bits its layout does not name. -/
def packed (unnamed : Octet) (n : Nat) : OutOctet := ⟨octet n, unnamed⟩

/-- The octets as sent: a named bit as the layout gives it, an unnamed one from the free values `free`, octet by octet
from octet `i` (log entry 7). -/
def settle (free : Nat → Octet) : Nat → List OutOctet → List Octet
  | _, [] => []
  | i, o :: rest =>
    (if o.unnamed = 0 then o.value else (o.value &&& ~~~o.unnamed) ||| (free i &&& o.unnamed)) :: settle free (i + 1) rest

/-- A flag at bit `i` of a packed octet. -/
def flagAt (i : Nat) (b : Bool) : Nat := if b then 2 ^ i else 0

/-- A flag carried in a whole octet: 0 clear, 1 set (section 9.7). -/
def flagOctet (b : Bool) : Octet := if b then 1 else 0

end Sys2Proof.Machine
end

