-- ==== Sys2Proof/Machine/Frames.lean ====
section
/-! DEFINITION. Inbound frames (R143, section 9.7): the escape, the 16-bit check, the header, and the payload of each
request kind; and beside the reading of a request its writing, which is what a station sends. -/

namespace Sys2Proof.Machine

/-- The flag octet C5h (R142). -/
def flagByte : Octet := 0xC5

/-- The escape octet CAh (section 9.7). -/
def escapeByte : Octet := 0xCA

/-- One bit of the check with generator 1021h, most significant bit first (R143). -/
def crcBit (c : Half) : Half := if c.msb then (c <<< 1) ^^^ 0x1021 else c <<< 1

/-- One octet of the check (R143). -/
def crcOctet (c : Half) (o : Octet) : Half :=
  crcBit (crcBit (crcBit (crcBit (crcBit (crcBit (crcBit (crcBit (c ^^^ (o ++ (0 : Octet))))))))))

/-- The check of a list of octets: initial value FFFFh, no final inversion (R143). -/
def crc (octets : List Octet) : Half := octets.foldl crcOctet 0xFFFF

/-- Escaping: C5h and CAh inside a frame go as CAh and the octet exclusive-or 20h (section 9.7). -/
def escape : List Octet → List Octet
  | [] => []
  | o :: rest => if o = flagByte ∨ o = escapeByte then escapeByte :: (o ^^^ 0x20) :: escape rest else o :: escape rest

/-- The receiver's undoing of the escape. None is a bad frame: an escape octet followed by an octet other than E5h or
EAh, or by the closing flag (R143). A flag octet among the octets of one frame is also none (log entry 16). -/
def unescape : List Octet → Option (List Octet)
  | [] => some []
  | o :: rest =>
    if o = escapeByte then
      match rest with
      | [] => none
      | e :: rest' => if e = 0xE5 ∨ e = 0xEA then (unescape rest').map ((e ^^^ 0x20) :: ·) else none
    else if o = flagByte then none
    else (unescape rest).map (o :: ·)

/-! ### Request bodies -/

/-- The kind octet of a request: reports 01h to 05h, queries and commands from 10h in the order of R155's table
(section 9.7). -/
def bodyKind : ReqBody → Octet
  | .formResult .. => 0x01 | .placement .. => 0x02 | .inspection .. => 0x03 | .sealHit .. => 0x04
  | .discharge .. => 0x05
  | .start => 0x10 | .stopForming => 0x11 | .selectRecipe .. => 0x12 | .purge => 0x13 | .condemn .. => 0x14
  | .releaseHold => 0x15 | .stationModeSet .. => 0x16
  | .stationWrite .. => 0x17 | .recipeWrite .. => 0x18 | .indexIntervalSet .. => 0x19 | .traceLevelsSet .. => 0x1A
  | .arbiterWrite .. => 0x1B | .retireRead .. => 0x1C
  | .lineStatus => 0x1D | .stationRead .. => 0x1E | .recipeRead .. => 0x1F | .cardQuery .. => 0x20
  | .rowQuery .. => 0x21 | .traceStatus => 0x22 | .countersRead .. => 0x23 | .arbiterRead => 0x24
  | .attnStatusRead => 0x25 | .attnEnableSet .. => 0x26 | .attnEnableClear .. => 0x27 | .attnClear .. => 0x28

/-- PLACEMENT pairs, two octets each. -/
def readPairs : List Octet → Option (List PlacePair)
  | [] => some []
  | [_] => none
  | c :: n :: rest => (readPairs rest).map (⟨c, n⟩ :: ·)

/-- INSPECTION entries, four octets each. -/
def readEntries : List Octet → Option (List InspectEntry)
  | [] => some []
  | c :: s :: n :: o :: rest => (readEntries rest).map (⟨c, s, n, o⟩ :: ·)
  | _ => none

/-- Recipe cavity entries, six octets each, in the order of R49. -/
def readCavities : List Octet → Option (List CavityArg)
  | [] => some []
  | c :: r :: t :: f :: v :: o :: rest => (readCavities rest).map (⟨c, r, t, f, v, o⟩ :: ·)
  | _ => none

/-- A list whose count octet agrees with its length (R143: the payload length is the one the kind implies). -/
def counted {α : Type} (k : Octet) (items : Option (List α)) : Option (List α) :=
  items.bind fun l => if l.length = k.toNat then some l else none

/-- A recipe entry of 15 octets, a count k, and k cavity entries (section 9.7). -/
def readRecipe : List Octet → Option RecipeArg
  | v :: cu1 :: cu0 :: m :: n :: rc :: rl :: t1 :: t0 :: l1 :: l0 :: h1 :: h0 :: p1 :: p0 :: k :: rest =>
    (counted k (readCavities rest)).map
      (⟨v, half cu1 cu0, m, n, rc, rl, half t1 t0, half l1 l0, half h1 h0, half p1 p0, ·⟩)
  | _ => none

/-- A station entry of 6 octets (section 9.7). -/
def readStation : List Octet → Option StationArg
  | [r, o, w, q, m, p] => some ⟨r, o, w, q, m, p⟩
  | _ => none

/-- The 32 port numbers of an arbiter table (section 9.7). -/
def readPhases (l : List Octet) : Option (Vector Octet 32) :=
  if h : l.length = 32 then some ⟨l.toArray, by simpa using h⟩ else none

/-- The request a payload carries under a kind octet. None is a bad frame: the kind names no request, or the payload
length is not the one the kind implies (R143). -/
def readBody (kind : Octet) (payload : List Octet) : Option ReqBody :=
  match kind.toNat with
  | 0x01 => match payload with
    | a :: b :: c :: d :: lane :: splice :: n :: rest =>
      (counted n (some rest)).map (.formResult (word a b c d) lane splice ·)
    | _ => none
  | 0x02 => match payload with
    | a :: b :: c :: d :: lane :: k :: rest => (counted k (readPairs rest)).map (.placement (word a b c d) lane ·)
    | _ => none
  | 0x03 => match payload with
    | a :: b :: c :: d :: lane :: k :: rest => (counted k (readEntries rest)).map (.inspection (word a b c d) lane ·)
    | _ => none
  | 0x04 => match payload with
    | [a, b, c, d, lane, sealed, t1, t0, w1, w0, p1, p0] =>
      some (.sealHit (word a b c d) lane sealed (half t1 t0) (half w1 w0) (half p1 p0))
    | _ => none
  | 0x05 => match payload with
    | [a, b, c, d, lane, outcome] => some (.discharge (word a b c d) lane outcome)
    | _ => none
  | 0x10 => if payload = [] then some .start else none
  | 0x11 => if payload = [] then some .stopForming else none
  | 0x12 => match payload with
    | [id] => some (.selectRecipe id)
    | _ => none
  | 0x13 => if payload = [] then some .purge else none
  | 0x14 => match payload with
    | [a, b, c, d, n, m] => some (.condemn (word a b c d) n m)
    | _ => none
  | 0x15 => if payload = [] then some .releaseHold else none
  | 0x16 => match payload with
    | [p, m] => some (.stationModeSet p m)
    | _ => none
  | 0x17 => match payload with
    | p :: entry => (readStation entry).map (.stationWrite p ·)
    | _ => none
  | 0x18 => match payload with
    | id :: entry => (readRecipe entry).map (.recipeWrite id ·)
    | _ => none
  | 0x19 => match payload with
    | [a, b] => some (.indexIntervalSet (half a b))
    | _ => none
  | 0x1A => match payload with
    | [a, b, c, d] => some (.traceLevelsSet (half a b) (half c d))
    | _ => none
  | 0x1B => (readPhases payload).map .arbiterWrite
  | 0x1C => match payload with
    | [n] => some (.retireRead n)
    | _ => none
  | 0x1D => if payload = [] then some .lineStatus else none
  | 0x1E => match payload with
    | [p] => some (.stationRead p)
    | _ => none
  | 0x1F => match payload with
    | [id] => some (.recipeRead id)
    | _ => none
  | 0x20 => match payload with
    | [a, b, c, d, lane] => some (.cardQuery (word a b c d) lane)
    | _ => none
  | 0x21 => match payload with
    | [o] => some (.rowQuery o)
    | _ => none
  | 0x22 => if payload = [] then some .traceStatus else none
  | 0x23 => match payload with
    | [p] => some (.countersRead p)
    | _ => none
  | 0x24 => if payload = [] then some .arbiterRead else none
  | 0x25 => if payload = [] then some .attnStatusRead else none
  | 0x26 => match payload with
    | [a, b] => some (.attnEnableSet (half a b))
    | _ => none
  | 0x27 => match payload with
    | [a, b] => some (.attnEnableClear (half a b))
    | _ => none
  | 0x28 => match payload with
    | [a, b] => some (.attnClear (half a b))
    | _ => none
  | _ => none

/-- The octets of a recipe argument: 15, a count and the cavity entries (section 9.7). -/
def recipeArgOctets (r : RecipeArg) : List Octet :=
  [r.valid] ++ halfOctets r.customer ++ [r.laneMask, r.cavityCount, r.recover, r.refillLimit] ++ halfOctets r.tAct
    ++ halfOctets r.dMin ++ halfOctets r.dMax ++ halfOctets r.pMin ++ [octet r.cavities.length]
    ++ r.cavities.flatMap fun c => [c.cls, c.required, c.overTol, c.feeder, c.verify, c.orient]

/-- The payload that carries a request, as section 9.7 lays it out. -/
def bodyOctets : ReqBody → List Octet
  | .formResult row lane splice outcomes =>
    wordOctets row ++ [lane, splice, octet outcomes.length] ++ outcomes
  | .placement row lane pairs =>
    wordOctets row ++ [lane, octet pairs.length] ++ pairs.flatMap fun p => [p.cavity, p.count]
  | .inspection row lane entries =>
    wordOctets row ++ [lane, octet entries.length]
      ++ entries.flatMap fun e => [e.cavity, e.classSeen, e.count, e.orientation]
  | .sealHit row lane sealed t w p =>
    wordOctets row ++ [lane, sealed] ++ halfOctets t ++ halfOctets w ++ halfOctets p
  | .discharge row lane outcome => wordOctets row ++ [lane, outcome]
  | .start | .stopForming | .purge | .releaseHold | .lineStatus | .traceStatus | .arbiterRead | .attnStatusRead => []
  | .selectRecipe id | .recipeRead id => [id]
  | .condemn row n m => wordOctets row ++ [n, m]
  | .stationModeSet p m => [p, m]
  | .stationWrite p e => [p, e.role, e.offset, e.window, e.required, e.mode, e.perms]
  | .recipeWrite id r => id :: recipeArgOctets r
  | .indexIntervalSet v => halfOctets v
  | .traceLevelsSet n h => halfOctets n ++ halfOctets h
  | .arbiterWrite phases => phases.toList
  | .retireRead n => [n]
  | .stationRead p | .countersRead p => [p]
  | .cardQuery row lane => wordOctets row ++ [lane]
  | .rowQuery o => [o]
  | .attnEnableSet c | .attnEnableClear c | .attnClear c => halfOctets c

/-! ### Frames -/

/-- A frame's octets before escaping: header (kind, tag, credit, payload length), payload, check high octet first
(R143, section 9.7). -/
def plainFrame (kind tag credit : Octet) (payload : List Octet) : List Octet :=
  let body := [kind, tag, credit, octet payload.length] ++ payload
  body ++ halfOctets (crc body)

/-- The octets between the flags on the wire. -/
def wireFrame (kind tag credit : Octet) (payload : List Octet) : List Octet :=
  escape (plainFrame kind tag credit payload)

/-- The request a received frame carries, from its octets between the flags; none is a bad frame (R143). The credit
octet is ignored (section 9.7). -/
def readFrame (octets : List Octet) : Option InReq :=
  match unescape octets with
  | some (kind :: tag :: credit :: len :: rest) =>
    if len.toNat ≤ Config.maxPayload ∧ rest.length = len.toNat + 2 then
      let payload := rest.take len.toNat
      if rest.drop len.toNat = halfOctets (crc ([kind, tag, credit, len] ++ payload)) then
        (readBody kind payload).map (⟨tag, ·⟩)
      else none
    else none
  | _ => none

/-- The octets between the flags of a frame that carries a request, with any credit octet. -/
def requestFrame (r : InReq) (credit : Octet) : List Octet :=
  wireFrame (bodyKind r.body) r.tag credit (bodyOctets r.body)

end Sys2Proof.Machine
end

