-- ==== Sys2Proof/Machine/Ops.lean ====
section
/-! DEFINITION. The named operations every command is built from: port blocks and their queues (R145 to R149), the
offer of ATTENTIONs (R162), the station and recipe tables, and the map's rows and cards. -/

namespace Sys2Proof.Machine

/-! ### Port blocks -/

/-- The state with one port's block replaced. -/
def State.setPort (s : State) (p : Port) (b : PortBlock) : State := { s with ports := s.ports.set p b }

/-- The state with one port's block changed. -/
def State.onPort (s : State) (p : Port) (f : PortBlock → PortBlock) : State := s.setPort p (f (s.port p))

/-- The state with every port's block changed. -/
def State.onPorts (s : State) (f : Port → PortBlock → PortBlock) : State :=
  { s with ports := PerPort.ofFn fun p => f p (s.port p) }

/-- An outbound queue has a free entry; reserved entries count among the 8 (R147). -/
def PortBlock.hasFree (b : PortBlock) : Bool := b.outbound.length + b.reserved < Config.outboundSize

/-- The free space of the inbound queue (R145). -/
def PortBlock.inboundFree (b : PortBlock) : Nat := Config.inboundSize - b.inbound.length

/-- The queued messages that are not yet being sent: all but the oldest once its sending has begun (R147). -/
def PortBlock.waiting (b : PortBlock) : List Message := if b.sending.isSome then b.outbound.tail else b.outbound

/-- The message is a CREDIT. -/
def isCredit : Message → Bool
  | .credit => true
  | _ => false

/-- The message is an ATTENTION. -/
def isAttention : Message → Bool
  | .attention => true
  | _ => false

/-- A message placed at the tail of the outbound queue (R147). -/
def PortBlock.place (b : PortBlock) (m : Message) : PortBlock := { b with outbound := b.outbound ++ [m] }

/-- A CREDIT is offered: it adds nothing while one waits, and is skipped when the queue is full (R146, R148). -/
def PortBlock.offerCredit (b : PortBlock) : PortBlock :=
  if b.waiting.any isCredit then b else if b.hasFree then b.place .credit else b

/-- An ATTENTION is offered: it adds nothing while the mark is set or one waits; on a full queue it sets the mark
(R149). -/
def PortBlock.offerAttention (b : PortBlock) : PortBlock :=
  if b.attnPending || b.waiting.any isAttention then b
  else if b.hasFree then b.place .attention
  else { b with attnPending := true }

/-- One outbound entry reserved for an answer (R147). -/
def PortBlock.reserve (b : PortBlock) : PortBlock := { b with reserved := b.reserved + 1 }

/-- An answer placed in its reserved entry, which ends the reservation (R147). -/
def PortBlock.placeReserved (b : PortBlock) (m : Message) : PortBlock :=
  { b with outbound := b.outbound ++ [m], reserved := b.reserved - 1 }

/-- The state `after` a change, with an ATTENTION offered on every port whose masked status has gone from empty to
non-empty since `before` (R162). -/
def announce (before after : State) : State :=
  after.onPorts fun p b => if before.masked p = 0 ∧ after.masked p ≠ 0 then b.offerAttention else b

/-- An event latched on the ports chosen, with no ATTENTION offered yet. -/
def latchOn (choose : Port → Bool) (e : Event) (s : State) : State :=
  s.onPorts fun p b => if choose p then latch e b else b

/-- A posted request's REFUSAL offered: placed, or dropped with REFUSAL_LOST counted and latched (R148). -/
def PortBlock.offerRefusal (b : PortBlock) (m : Message) : PortBlock :=
  if b.hasFree then b.place m else latch .refusalLost { b with refusalLost := b.refusalLost + 1 }

/-- An event raised on the ports chosen (R158), with the ATTENTIONs it causes (R162). -/
def raise (choose : Port → Bool) (e : Event) (s : State) : State := announce s (latchOn choose e s)

/-- Every port, for events that are raised on every port (section 10.1). -/
def everyPort : Port → Bool := fun _ => true

/-- A brief is offered to a port's outbound queue (R148, R154): placed if there is room (true), else dropped, counted
in BRIEF_LOST and raised on the port (false). -/
def offerBrief (p : Port) (brief : Brief) (s : State) : Bool × State :=
  if (s.port p).hasFree then (true, s.onPort p (·.place (.brief brief)))
  else (false, announce s (s.onPort p fun b => latch .briefLost { b with briefLost := b.briefLost + 1 }))

/-! ### Tables and records -/

/-- The port with a number 0 to 7, from an octet; none above 7. -/
def portOf (o : Octet) : Option Port := Port.all[o.toNat]?

/-- The number of a port. -/
def portNat : Port → Nat
  | .p0 => 0 | .p1 => 1 | .p2 => 2 | .p3 => 3 | .p4 => 4 | .p5 => 5 | .p6 => 6 | .p7 => 7

/-- A port's station table entry. -/
def State.station (s : State) (p : Port) : Station := s.stations.get p

/-- The state with one station table entry replaced. -/
def State.setStation (s : State) (p : Port) (e : Station) : State := { s with stations := s.stations.set p e }

/-- The ports whose entry has a role, in port order. -/
def State.portsWith (s : State) (role : Role) : List Port := Port.all.filter fun p => (s.station p).role = role

/-- The roles with a place on the line, FORM to PUNCH (R27). -/
def Role.onLine : Role → Bool
  | .form | .feed | .inspect | .topup | .seal | .punch => true
  | .unassigned | .supervisor => false

/-- A recipe entry. -/
def State.recipe (s : State) (id : RecipeId) : Recipe := s.recipes.get id

/-- The cavity count of a recipe: the length of its cavity list (R49). -/
def Recipe.cavityCount (r : Recipe) : Nat := r.cavities.length

/-- A recipe's use count (R53). -/
def State.useCount (s : State) (id : RecipeId) : Nat := s.useCounts.get id

/-- The state with one use count replaced. -/
def State.setUseCount (s : State) (id : RecipeId) (n : Nat) : State :=
  { s with useCounts := s.useCounts.set id.val n id.isLt }

/-- The ring slot of a row: its row number modulo 64 (R19). -/
def Row.slot (r : Row) : Nat := r.number.toNat % 64

/-- The row on the map with a row number; row numbers are compared for equality only (R19). -/
def State.findRow (s : State) (number : Word) : Option Row := s.rows.find? fun r => r.number = number

/-- The lane an octet names in a row: 0 to 3 and in the row's lane mask (R64 step 1). -/
def laneIn (row : Row) (lane : Octet) : Option (Fin 4) :=
  if h : lane.toNat < 4 then if row.laneMask.getLsbD lane.toNat then some ⟨lane.toNat, h⟩ else none else none

/-- A row's card in a lane. -/
def Row.card (row : Row) (lane : Fin 4) : Option Card := row.cards.find? fun c => c.lane = lane

/-- The lanes of a mask in lane order (spec 00, Lane mask). -/
def lanesOf (mask : BitVec 4) : List (Fin 4) := [0, 1, 2, 3].filter fun l => mask.getLsbD l.val

/-- The rows with one card changed. -/
def updateCard (number : Word) (lane : Fin 4) (f : Card → Card) (rows : List Row) : List Row :=
  rows.map fun r =>
    if r.number = number then { r with cards := r.cards.map fun c => if c.lane = lane then f c else c } else r

/-- Condemnation (R115): the three fields are set together, only on a card whose reason is absent and that is not
FROZEN. -/
def Card.condemn (c : Card) (reason : Reason) (station : Option Port) (offset : Nat) : Card :=
  if c.reason = none ∧ c.state ≠ .frozen then
    { c with reason := some reason, station := station, condemnOffset := some offset }
  else c

/-- An event of the part that does nothing while RESET_N is low (R165). -/
def unlessHeld (f : State → State) (s : State) : Host.Outcome State Fault Refusal :=
  if s.resetHeld then .next s else .next (f s)

end Sys2Proof.Machine
end

