-- ==== Sys2Proof/Machine/Engine.lean ====
section
/-! DEFINITION. The way of a request through a port and the request engine: its arrival in the inbound queue (R142,
R145), its grant by the arbiter (R150, R151), and its application with the answer placed (R153). -/

namespace Sys2Proof.Machine

/-! ### Arrival -/

/-- An octet received restarts an UP link's 10 ms (R142). -/
def heard (b : PortBlock) : PortBlock := if b.link = .up then { b with quiet := 0 } else b

/-- A DOWN link brought UP by a good frame, with the CREDIT offered at link up (R142, R146). -/
def linkUp (b : PortBlock) : PortBlock :=
  if b.link = .down then PortBlock.offerCredit { b with link := .up, quiet := 0 } else heard b

/-- A request offered to the inbound queue (R145): it enters at the tail, or is discarded, counted and raised. -/
def enqueue (p : Port) (r : InReq) (s : State) : State :=
  if (s.port p).inbound.length < Config.inboundSize then
    s.onPort p fun b => { b with inbound := b.inbound ++ [r] }
  else
    announce s (s.onPort p fun b => latch .inboundOverrun { b with inboundOverruns := b.inboundOverruns + 1 })

/-- A request received in a good frame: a DOWN link comes UP, and the request is offered to the inbound queue (R142,
R145). -/
def receiveRequest (p : Port) (r : InReq) (s : State) : State := enqueue p r (s.onPort p linkUp)

/-! ### The arbiter -/

/-- The oldest posted request of an inbound queue and the queue without it (R150). -/
def takePosted : List InReq → Option (InReq × List InReq)
  | [] => none
  | r :: rest => if r.body.posted then some (r, rest) else (takePosted rest).map fun x => (x.1, r :: x.2)

/-- The oldest request of an inbound queue and the queue without it. -/
def takeOldest : List InReq → Option (InReq × List InReq)
  | [] => none
  | r :: rest => some (r, rest)

/-- A port's eligible request and its inbound queue without it (R150). -/
def eligible (b : PortBlock) : Option (InReq × List InReq) :=
  if b.hasFree then takeOldest b.inbound else takePosted b.inbound

/-- The phases from the pointer onward, wrapping from 31 to 0 (R151). -/
def phasesFrom (phase : Fin 32) : List (Fin 32) :=
  (List.range 32).map fun k => ⟨(phase.val + k) % 32, Nat.mod_lt _ (by decide)⟩

/-- What the arbiter grants (R151): the first phase from the pointer whose port has an eligible request, that port, the
request, and the inbound queue without it. -/
def grantOf (s : State) : Option (Fin 32 × Port × InReq × List InReq) :=
  (phasesFrom s.phase).findSome? fun i =>
    (eligible (s.port (s.arbiter.get i))).map fun x => (i, s.arbiter.get i, x.1, x.2)

/-- The phase after one, wrapping from 31 to 0. -/
def nextPhase (i : Fin 32) : Fin 32 := ⟨(i.val + 1) % 32, Nat.mod_lt _ (by decide)⟩

/-- The CREDIT of a grant: the outbound queue holds no message, and the free space exceeds the credit state (R146). -/
def creditAtGrant (b : PortBlock) : PortBlock :=
  if b.outbound = [] ∧ b.credit < b.inboundFree then b.offerCredit else b

/-- A port block after a grant: the request gone, an entry reserved for a non-posted one, and the CREDIT offered. -/
def grantedBlock (r : InReq) (rest : List InReq) (b : PortBlock) : PortBlock :=
  let b1 := { b with inbound := rest }
  creditAtGrant (if r.body.posted then b1 else b1.reserve)

/-- The arbiter with the engine free grants one request; with none eligible, or while the engine holds one, it grants
nothing (R151). -/
def grantNext (s : State) : State :=
  if s.engine = none then
    match grantOf s with
    | some (i, p, r, rest) =>
      { s.onPort p (grantedBlock r rest) with engine := some ⟨p, r.tag, r.body⟩, phase := nextPhase i }
    | none => s
  else s

/-! ### The request engine -/

/-- How an application ends (R153): a RESPONSE, a REFUSAL with code and detail, or, for an accepted report, no answer. -/
inductive Answer where
  | nothing
  | response (answer : Response)
  | refusal (code : Code) (detail : Nat)
  deriving DecidableEq, Repr

/-- The REFUSAL of a request (R156): its tag, kind, code and one detail value. -/
def refusalOf (r : Request) (code : Code) (detail : Nat) : Message := .refusal r.tag (bodyKind r.body) code detail

/-- The answer of an application placed in the requesting port's outbound queue (R153, R148). -/
def placeAnswer (r : Request) (a : Answer) (s : State) : State :=
  match a with
  | .nothing => s
  | .response m => s.onPort r.port (·.placeReserved (.response r.tag m))
  | .refusal code detail =>
    if r.body.posted then s.onPort r.port (·.offerRefusal (refusalOf r code detail))
    else s.onPort r.port (·.placeReserved (refusalOf r code detail))

/-- A request as it stands in its port's inbound queue. -/
def asQueued (r : Request) : InReq := ⟨r.tag, r.body⟩

/-- The state in which the request that a command names has come to the part: it waits in its port's inbound queue
already, or the command stands for its frame, received now (R143, R145). DESIGN CHOICE, log entry 2. -/
def arrived (r : Request) (s : State) : State :=
  if asQueued r ∈ (s.port r.port).inbound then s else receiveRequest r.port (asQueued r) s

/-- A request command for a request that the engine does not hold: the request comes to the part, and a free engine is
granted the next request by the arbiter (R151), which need not be this one. DESIGN CHOICE, log entry 2. -/
def brought (r : Request) (s : State) : State := if s.engine = some r then s else grantNext (arrived r s)

/-- The application of a request the engine holds (R153): refused NOT_READY during autoload before any other check
(R166), else applied whole; the answer is placed last, then the ATTENTIONs the application causes (R148, R162), and the
engine is free. -/
def applyHeld (r : Request) (app : State → State × Answer) (s : State) : State :=
  let result := if s.load = .loading then (s, .refusal .notReady 0) else app s
  announce s (placeAnswer r result.2 { result.1 with engine := none })

/-- A request command: with its request granted, now or before, the engine applies it (R153); until then it waits in the
inbound queue behind what must go before it (R150). While RESET_N is low nothing happens (R165). -/
def serve (r : Request) (app : State → State × Answer) (s : State) : Host.Outcome State Fault Refusal :=
  if s.resetHeld then .next s
  else if (brought r s).engine = some r then .next (applyHeld r app (brought r s))
  else .next (brought r s)

/-- An application that needs a permission in the sending port's entry: refused FORBIDDEN before every case of its own
rule (R155). -/
def withPermission (has : Perms → Bool) (p : Port) (app : State → State × Answer) (s : State) : State × Answer :=
  if has (s.station p).perms then app s else (s, .refusal .forbidden 0)

end Sys2Proof.Machine
end

