-- ==== Sys2Proof/Machine/Operands.lean ====
section
/-! DEFINITION. From the raw fields a request or a stored block carries to the values the tables and records hold:
which values are refused and which are clamped (R29, R48, R49, R64, R65, R159; section 9.7). -/

namespace Sys2Proof.Machine

/-- The nearest value in a range (spec 00, Clamped and refused values). -/
def clampTo (low high n : Nat) : Nat := max low (min high n)

/-- A flag carried in a whole octet: 0 clear, 1 set, anything else refused (R64 step 4). -/
def flagOf (o : Octet) : Option Bool := if o = 0 then some false else if o = 1 then some true else none

/-- A role as carried (section 9.7). -/
def roleOf (o : Octet) : Option Role :=
  match o.toNat with
  | 0 => some .unassigned
  | 1 => some .form
  | 2 => some .feed
  | 3 => some .inspect
  | 4 => some .topup
  | 5 => some .seal
  | 6 => some .punch
  | 7 => some .supervisor
  | _ => none

/-- A mode as carried: 0 OFFLINE, 1 ACTIVE (section 9.7). -/
def modeOf (o : Octet) : Option Mode := if o = 0 then some .offline else if o = 1 then some .active else none

/-- A permission set as carried: bits 0 to 2 for OPERATE, CONFIG and TRACE (section 9.7); any other bit refused (R29). -/
def permsOf (o : Octet) : Option Perms :=
  if o.toNat < 8 then some ⟨o.getLsbD 0, o.getLsbD 1, o.getLsbD 2⟩ else none

/-- A station entry as stored: role, required flag, mode and permissions refused outside their values, an offset above
62 refused, the window clamped to 1 to 8 (R29). None is refused BAD_VALUE. -/
def stationOf (a : StationArg) : Option Station :=
  match roleOf a.role, flagOf a.required, modeOf a.mode, permsOf a.perms with
  | some role, some required, some mode, some perms =>
    if a.offset.toNat ≤ 62 then some ⟨role, a.offset.toNat, clampTo 1 8 a.window.toNat, required, mode, perms⟩
    else none
  | _, _, _, _ => none

/-- A cavity entry's refused values: class 1 to 63, required count 1 to 15, flags 0 or 1 (R49, R50 case 7). -/
def cavityArgOk (a : CavityArg) : Bool :=
  1 ≤ a.cls.toNat && a.cls.toNat ≤ 63 && 1 ≤ a.required.toNat && a.required.toNat ≤ 15 && (flagOf a.verify).isSome
    && (flagOf a.orient).isSome

/-- The refusal of a recipe's content, cases 5 to 7 of R50 in order; none is accepted. -/
def recipeRefusal (a : RecipeArg) : Option Code :=
  if a.cavityCount.toNat = 0 ∨ 12 < a.cavityCount.toNat then some .badValue
  else if a.cavities.length ≠ a.cavityCount.toNat then some .malformed
  else if a.laneMask.toNat = 0 ∨ 15 < a.laneMask.toNat ∨ a.dMax.toNat < a.dMin.toNat ∨ flagOf a.valid = none
      ∨ flagOf a.recover = none ∨ a.cavities.all cavityArgOk = false then some .badValue
  else none

/-- A cavity entry as stored: over tolerance clamped to 3, a feeder above 7 stored as none (R49). -/
def storedCavity (a : CavityArg) : CavitySpec :=
  ⟨a.cls.toNat, a.required.toNat, min 3 a.overTol.toNat, portOf a.feeder, a.verify = 1, a.orient = 1⟩

/-- A recipe entry as stored, with the clamps of R48 and R49. -/
def storedRecipe (a : RecipeArg) : Recipe where
  valid := a.valid = 1
  customer := a.customer
  laneMask := a.laneMask.setWidth 4
  recover := a.recover = 1
  refillLimit := min 2 a.refillLimit.toNat
  tAct := min 3000 a.tAct.toNat
  dMin := a.dMin.toNat
  dMax := a.dMax.toNat
  pMin := min 1000 a.pMin.toNat
  cavities := a.cavities.map storedCavity

/-- A recipe ID as carried: 0 to 15 (R50 case 2). -/
def recipeIdOf (o : Octet) : Option RecipeId := if h : o.toNat < 16 then some ⟨o.toNat, h⟩ else none

/-- An interval as stored: clamped to 20 to 2000 (R11). -/
def storedInterval (v : Half) : Nat := clampTo 20 2000 v.toNat

/-- A notify level as stored: clamped to 1 to 255 (R134). -/
def storedNotify (v : Half) : Nat := clampTo 1 255 v.toNat

/-- A hold level as stored: clamped to 4 to 128 (R134). -/
def storedHoldLevel (v : Half) : Nat := clampTo 4 128 v.toNat

/-- An arbiter phase as stored: a port number above 7 is stored as 0 (R152). -/
def storedPhase (o : Octet) : Port := (portOf o).getD .p0

/-- The arbiter table as stored (R152). -/
def storedArbiter (phases : Vector Octet 32) : Vector Port 32 :=
  ⟨(phases.toList.map storedPhase).toArray, by simp⟩

/-- A form outcome as carried: 1 GOOD, 2 THIN, 3 NOT_FORMED (section 9.7). -/
def formOutcomeOf (o : Octet) : Option FormOutcome :=
  match o.toNat with
  | 1 => some .good
  | 2 => some .thin
  | 3 => some .notFormed
  | _ => none

/-- An orientation as carried: 0 OK, 1 REVERSED, 2 UNDETERMINED (section 9.7). -/
def orientationOf (o : Octet) : Option Orientation :=
  match o.toNat with
  | 0 => some .ok
  | 1 => some .reversed
  | 2 => some .undetermined
  | _ => none

/-- A reported discharge as carried: 1 GOOD_CHUTE, 2 REJECT_CHUTE, 3 JAMMED; UNKNOWN cannot be reported (R81). -/
def dischargeOf (o : Octet) : Option Discharge :=
  match o.toNat with
  | 1 => some .goodChute
  | 2 => some .rejectChute
  | 3 => some .jammed
  | _ => none

/-- An item count as stored: a count above 15 is stored as 15 (R65). -/
def storedCount (o : Octet) : Nat := min 15 o.toNat

/-- A condition set as carried: any of bits 12 to 15 set is refused BAD_VALUE (R159). -/
def conditionsOf (h : Half) : Option CondSet := if h.toNat < 4096 then some (h.setWidth 12) else none

end Sys2Proof.Machine
end

