-- ==== Sys2Proof/Machine/Cards.lean ====
section
/-! DEFINITION. The judgement unit's work on card and cavity records: the effective count (R84), placements (R71),
inspections (R76), refill orders (R89), the judgement pass (R96), the seal arithmetic (R103 to R109), the freeze (R117,
R118) and the retire record (R130). -/

namespace Sys2Proof.Machine

/-! ### Cavities -/

/-- A cavity record at formation (R25). -/
def Cavity.fresh : Cavity := ⟨none, [], none, 0, none, none, 0⟩

/-- The effective count (R84): the governing record's count plus the entries placed downstream of it, or the sum of all
entries where there is no record; limited to 15. -/
def effectiveCount (stations : PerPort Station) (inspection : Option Inspection) (placements : List Placement) : Nat :=
  match inspection with
  | some i =>
    min 15 (i.count + ((placements.filter fun e =>
      (stations.get i.station).offset < (stations.get e.station).offset).map (·.count)).sum)
  | none => min 15 (placements.map (·.count)).sum

/-- A cavity with its effective count recomputed (R85). -/
def Cavity.recount (stations : PerPort Station) (c : Cavity) : Cavity :=
  { c with count := effectiveCount stations c.inspection c.placements }

/-- A station's entry written in a placement list: replaced in its place, or added at the end (R71). -/
def writeEntry (p : Port) (n : Nat) (l : List Placement) : List Placement :=
  if l.any fun e => e.station = p then l.map fun e => if e.station = p then ⟨p, n⟩ else e else l ++ [⟨p, n⟩]

/-- A list changed position by position, counted from `i`. -/
def mapFrom {α : Type} (f : Nat → α → α) : Nat → List α → List α
  | _, [] => []
  | i, x :: xs => f i x :: mapFrom f (i + 1) xs

/-- A card's cavities changed beside the recipe's cavity entries. -/
def mapSpec (f : CavitySpec → Cavity → Cavity) : List CavitySpec → List Cavity → List Cavity
  | s :: ss, c :: cs => f s c :: mapSpec f ss cs
  | _, cs => cs

/-- Some cavity of a card satisfies a test beside its recipe entry. -/
def anySpec (f : CavitySpec → Cavity → Bool) : List CavitySpec → List Cavity → Bool
  | s :: ss, c :: cs => f s c || anySpec f ss cs
  | _, _ => false

/-! ### FORM_RESULT -/

/-- Form outcomes set by position (R68). -/
def setForms : List FormOutcome → List Cavity → List Cavity
  | f :: fs, c :: cs => { c with form := some f } :: setForms fs cs
  | _, cs => cs

/-- An accepted FORM_RESULT applied to its card (R68). -/
def applyForm (p : Port) (offset : Nat) (splice : Bool) (outcomes : List FormOutcome) (c : Card) : Card :=
  let c1 := { c with cavities := setForms outcomes c.cavities }
  if splice then c1.condemn .splice (some p) offset
  else if outcomes.any (· ≠ .good) then c1.condemn .formFault (some p) offset
  else c1

/-! ### PLACEMENT -/

/-- One pair of an accepted PLACEMENT applied to its cavity (R71, R73). -/
def placeInto (stations : PerPort Station) (p : Port) (n : Nat) (c : Cavity) : Cavity :=
  let c1 := { c with placements := writeEntry p n c.placements }.recount stations
  if c.refill = some .ordered ∧ c.orderedBy = some p then { c1 with refill := some .placed } else c1

/-- An accepted PLACEMENT applied to its card: each named cavity takes its pair (R71). -/
def applyPlacement (stations : PerPort Station) (p : Port) (pairs : List PlacePair) (c : Card) : Card :=
  { c with
    cavities := mapFrom (fun i cav =>
      match pairs.find? fun e => e.cavity.toNat = i with
      | some e => placeInto stations p (storedCount e.count) cav
      | none => cav) 0 c.cavities }

/-! ### INSPECTION -/

/-- The cavity's record is held from a station of greater offset than the reporting one: the entry is superseded
(R75). -/
def superseded (stations : PerPort Station) (p : Port) (c : Cavity) : Bool :=
  match c.inspection with
  | some i => (stations.get p).offset < (stations.get i.station).offset
  | none => false

/-- The first of the three tests of R76 that holds on a cavity with a new record. -/
def inspectionFault (spec : CavitySpec) (classSeen : Nat) (orientation : Orientation) (count : Nat) : Option Reason :=
  if classSeen ≠ 0 ∧ classSeen ≠ spec.cls then some .wrongItem
  else if spec.orient ∧ classSeen ≠ 0 ∧ orientation ≠ .ok then some .orientation
  else if spec.required + spec.overTol < count then some .overCount
  else none

/-- One INSPECTION entry taken on its cavity (R75, R76): the cavity after, and the reason found. -/
def inspectInto (stations : PerPort Station) (p : Port) (spec : CavitySpec) (e : InspectEntry) (c : Cavity) :
    Cavity × Option Reason :=
  if superseded stations p c then (c, none)
  else
    let orientation := (orientationOf e.orientation).getD .ok
    let c1 :=
      { c with inspection := some ⟨p, e.classSeen.toNat, storedCount e.count, orientation⟩ }.recount stations
    (c1, inspectionFault spec e.classSeen.toNat orientation c1.count)

/-- The entries of an INSPECTION taken in cavity order from cavity `i` (R77): the cavities after, and the reasons found
in that order. -/
def inspectFrom (stations : PerPort Station) (p : Port) (entries : List InspectEntry) :
    Nat → List CavitySpec → List Cavity → List Cavity × List Reason
  | i, spec :: specs, c :: cs =>
    let rest := inspectFrom stations p entries (i + 1) specs cs
    match entries.find? fun e => e.cavity.toNat = i with
    | some e =>
      let done := inspectInto stations p spec e c
      (done.1 :: rest.1, done.2.toList ++ rest.2)
    | none => (c :: rest.1, rest.2)
  | _, _, cs => (cs, [])

/-- An accepted INSPECTION applied to its card: the first reason found condemns it (R77). -/
def applyInspection (stations : PerPort Station) (p : Port) (offset : Nat) (r : Recipe) (entries : List InspectEntry)
    (c : Card) : Card :=
  let done := inspectFrom stations p entries 0 r.cavities c.cavities
  let c1 := { c with cavities := done.1 }
  match done.2.head? with
  | some reason => c1.condemn reason (some p) offset
  | none => c1

/-! ### SEAL_HIT -/

/-- The dose of one sealed hit from clamped values (R108): the excess over T_act times the dwell, divided by 1000, the
fraction discarded. -/
def hitDose (tAct temperature dwell : Nat) : Nat := (temperature - tAct) * dwell / 1000

/-- A seal summary with one hit's dose added (R109). -/
def Seal.addDose (s : Seal) (dose : Nat) : Seal :=
  if s.dose + dose ≤ 65535 then { s with dose := s.dose + dose } else { s with dose := 65535, saturated := true }

/-- The minimum pressure seen after a sealed hit (R106). -/
def minPressureAfter (held : Option Nat) (p : Nat) : Option Nat :=
  match held with
  | some m => some (min m p)
  | none => some p

/-- An accepted SEAL_HIT applied to its card, in the order of R103 to R109: strike tally, clamping, and for a sealed
hit the hits, the minimum pressure, the pressure check and the dose. -/
def applySealHit (p : Port) (offset : Nat) (r : Recipe) (sealed : Bool) (temperature dwell pressure : Nat) (c : Card) :
    Card :=
  let t := min 3000 temperature
  let w := min 5000 dwell
  let q := min 1000 pressure
  let wasClamped := t ≠ temperature ∨ w ≠ dwell ∨ q ≠ pressure
  let s1 := { c.summary with clamped := c.summary.clamped || decide wasClamped }
  let c1 := { c with tallies := c.tallies.set p (c.tallies.get p + 1), summary := s1 }
  if sealed then
    let s2 := { s1 with hits := s1.hits + 1, minPressure := minPressureAfter s1.minPressure q }
    let c2 := if q < r.pMin then { c1 with summary := s2 }.condemn .sealPressure (some p) offset
      else { c1 with summary := s2 }
    { c2 with summary := s2.addDose (hitDose r.tAct t w) }
  else c1

/-! ### Refill orders -/

/-- The three conditions under which a TOPUP arrival orders a cavity (R89). -/
def wantsRefill (stations : PerPort Station) (p : Port) (r : Recipe) (spec : CavitySpec) (c : Cavity) : Bool :=
  c.count < spec.required && c.attempts < r.refillLimit &&
    match c.inspection with
    | some i => (stations.get i.station).offset < (stations.get p).offset
    | none => false

/-- An ordered cavity: one attempt more, and the outcome the brief's fate gives it (R89, R91). -/
def orderCavity (p : Port) (outcome : RefillOutcome) (c : Cavity) : Cavity :=
  { c with attempts := c.attempts + 1, refill := some outcome, orderedBy := some p }

/-- A card after a TOPUP arrival: a condemned card is skipped (R89). -/
def orderCard (stations : PerPort Station) (p : Port) (r : Recipe) (outcome : RefillOutcome) (c : Card) : Card :=
  if c.reason = none then
    { c with
      cavities := mapSpec (fun spec cav => if wantsRefill stations p r spec cav then orderCavity p outcome cav else cav)
        r.cavities c.cavities }
  else c

/-- The order lines of one card's cavities, in cavity order from cavity `i` (R89). -/
def orderLines (stations : PerPort Station) (p : Port) (r : Recipe) (lane : Fin 4) :
    Nat → List CavitySpec → List Cavity → List OrderLine
  | i, spec :: specs, c :: cs =>
    let rest := orderLines stations p r lane (i + 1) specs cs
    if wantsRefill stations p r spec c then ⟨lane, i, spec.required - c.count, spec.cls⟩ :: rest else rest
  | _, _, _ => []

/-- The order lines of one card; a condemned card has none (R89). -/
def cardLines (stations : PerPort Station) (p : Port) (r : Recipe) (c : Card) : List OrderLine :=
  if c.reason = none then orderLines stations p r c.lane 0 r.cavities c.cavities else []

/-! ### The judgement pass -/

/-- The four failures of one cavity (R96). -/
def overFails (spec : CavitySpec) (c : Cavity) : Bool := spec.required + spec.overTol < c.count
def shortFails (spec : CavitySpec) (c : Cavity) : Bool := c.count < spec.required && c.attempts == 0
def exhaustedFails (spec : CavitySpec) (c : Cavity) : Bool := c.count < spec.required && c.attempts != 0
def unverifiedFails (spec : CavitySpec) (c : Cavity) : Bool := spec.verify && c.inspection.isNone

/-- The lowest-numbered reason found among all cavities of a card (R97). -/
def judgedReason (r : Recipe) (c : Card) : Option Reason :=
  if anySpec overFails r.cavities c.cavities then some .overCount
  else if anySpec shortFails r.cavities c.cavities then some .shortCount
  else if anySpec exhaustedFails r.cavities c.cavities then some .refillExhausted
  else if anySpec unverifiedFails r.cavities c.cavities then some .notInspected
  else none

/-- The judgement pass on one card (R95, R97): tested if its reason is absent, then JUDGED if it was OPEN. -/
def judgeCard (r : Recipe) (offset : Nat) (c : Card) : Card :=
  let c1 := match judgedReason r c with
    | some reason => c.condemn reason none offset
    | none => c
  if c1.state = .opened then { c1 with state := .judged } else c1

/-! ### The freeze -/

/-- The dose test (R117). -/
def doseReason (r : Recipe) (s : Seal) : Option Reason :=
  if s.saturated ∨ r.dMax < s.dose then some .sealHigh
  else if s.dose < r.dMin then some .sealLow
  else none

/-- The freeze of one card (R117, R118): the dose test if its reason is absent, then the verdict and FROZEN. -/
def freezeCard (r : Recipe) (offset : Nat) (c : Card) : Card :=
  let c1 := match doseReason r c.summary with
    | some reason => c.condemn reason none offset
    | none => c
  { c1 with state := .frozen, verdict := some (if c1.reason = none then .pass else .reject) }

/-! ### Retirement -/

/-- The verdict of a card at retirement. Every card that retires in a run has one (R130); a card without one, which no
run holds at E, is taken as REJECT (log entry 19). -/
def Card.finalVerdict (c : Card) : Verdict := c.verdict.getD .reject

/-- The retire record of a card (R130, R131). -/
def retireRecord (row : Row) (r : Recipe) (now : Word) (c : Card) : RetireRecord where
  row := row.number
  lane := c.lane
  recipe := row.recipe
  customer := r.customer
  verdict := c.finalVerdict
  reason := c.reason
  station := c.station
  discharge := c.discharge
  formed := row.formed
  retired := now
  summary := c.summary
  counts := c.cavities.map (·.count)
  attempts := c.cavities.map (·.attempts)

/-! ### Formation -/

/-- A card record at formation (R22). -/
def Card.fresh (lane : Fin 4) (cavityCount : Nat) : Card where
  lane := lane
  state := .opened
  reason := none
  station := none
  condemnOffset := none
  summary := ⟨0, 0, false, false, none, false⟩
  tallies := PerPort.all 0
  verdict := none
  discharge := none
  reported := PerPort.all false
  cavities := List.replicate cavityCount Cavity.fresh

/-- A row record at formation (R18, R21). -/
def formedRow (number : Word) (recipe : RecipeId) (r : Recipe) (time : Word) : Row where
  number := number
  offset := 0
  recipe := recipe
  laneMask := r.laneMask
  formed := time
  cards := (lanesOf r.laneMask).map fun l => Card.fresh l r.cavityCount

end Sys2Proof.Machine
end

