-- ==== Sys2Proof/Machine/Advance.lean ====
section
/-! DEFINITION. The index path: INDEX_PULSE (R12), TIME_TAG_TICK (R10) and ADVANCE (R13 to R18) with its window closes
(R39 to R45), arrivals (R16), retirement (R17) and formation (R18). -/

namespace Sys2Proof.Machine

/-! ### Window closes -/

/-- A cavity of the closing FEED station with no entry from it (R41). -/
def owesEntry (p : Port) (spec : CavitySpec) (c : Cavity) : Bool :=
  spec.feeder = some p && !(c.placements.any fun e => e.station = p)

/-- The close of a required FEED station on one card (R41): a count-0 entry in each cavity that owes one, and NO_REPORT
when one of these has its verify flag clear. -/
def closeFeed (stations : PerPort Station) (p : Port) (r : Recipe) (offset : Nat) (c : Card) : Card :=
  let c1 := { c with
    cavities := mapSpec (fun spec cav =>
      if owesEntry p spec cav then Cavity.recount stations { cav with placements := cav.placements ++ [⟨p, 0⟩] } else cav)
      r.cavities c.cavities }
  if anySpec (fun spec cav => owesEntry p spec cav && !spec.verify) r.cavities c.cavities then
    c1.condemn .noReport (some p) offset
  else c1

/-- The port has the highest offset among the INSPECT entries (R42). -/
def highestInspect (s : State) (p : Port) : Bool :=
  (s.portsWith .inspect).all fun q => (s.station q).offset ≤ (s.station p).offset

/-- A cavity ordered by the closing TOPUP station and not answered (R43). -/
def closeOrder (p : Port) (c : Cavity) : Cavity :=
  if c.refill = some .ordered ∧ c.orderedBy = some p then { c with refill := some .noReport } else c

/-- The work of a required station's close on one card (R40 to R45). -/
def closeWork (s : State) (p : Port) (r : Recipe) (offset : Nat) (c : Card) : Card :=
  match (s.station p).role with
  | .form => if c.reported.get p then c else c.condemn .noReport (some p) offset
  | .feed => closeFeed s.stations p r offset c
  | .inspect =>
    if highestInspect s p && anySpec unverifiedFails r.cavities c.cavities then c.condemn .noReport (some p) offset
    else c
  | .topup => { c with cavities := c.cavities.map (closeOrder p) }
  | .seal => if c.reported.get p || c.summary.inhibited then c else c.condemn .noReport (some p) offset
  | .punch => if c.discharge = none then { c with discharge := some .unknown } else c
  | .supervisor | .unassigned => c

/-- The close of a station's window on one card (R39): the work if the station is required, then the port leaves the
reported set. -/
def closeCard (s : State) (p : Port) (r : Recipe) (offset : Nat) (c : Card) : Card :=
  let c1 := if (s.station p).required then closeWork s p r offset c else c
  { c1 with reported := c1.reported.set p false }

/-- The station's window closes at an offset (R15 step 1, R35). -/
def closesAt (e : Station) (offset : Nat) : Bool := e.role.onLine && e.offset + e.window == offset

/-- The closes a row takes at its new offset, in port order (R15 step 1). -/
def closeRow (s : State) (row : Row) : Row :=
  Port.all.foldl (fun row p =>
    if closesAt (s.station p) row.offset then
      { row with cards := row.cards.map (closeCard s p (s.recipe row.recipe) row.offset) }
    else row) row

/-! ### Briefs and arrivals -/

/-- The FEED brief (R87). -/
def feedBrief (p : Port) (r : Recipe) (row : Row) : Brief :=
  let fed := ((List.range r.cavities.length).zip r.cavities).filter fun x => x.2.feeder = some p
  .feed row.number row.recipe row.laneMask
    (row.cards.map fun c => ⟨c.lane, c.reason.isSome, fed.map fun x => (x.1, x.2.required, x.2.cls)⟩)

/-- The INSPECT brief (R88). -/
def inspectBrief (r : Recipe) (row : Row) : Brief :=
  .inspect row.number row.recipe row.laneMask
    (row.cards.map fun c =>
      ⟨c.lane, c.reason.isSome,
        (r.cavities.zip c.cavities).map fun x => ⟨x.1.cls, x.1.verify, x.1.orient, x.1.required, x.2.count⟩⟩)

/-- The TOPUP brief with the order lines made at this arrival (R91). -/
def topupBrief (stations : PerPort Station) (p : Port) (r : Recipe) (row : Row) : Brief :=
  .topup row.number row.recipe (row.cards.flatMap (cardLines stations p r))

/-- A SEAL brief inhibits a condemned card under a recipe whose recover flag is set (R112). -/
def inhibits (r : Recipe) (c : Card) : Bool := r.recover && c.reason.isSome

/-- The SEAL brief (R111). -/
def sealBrief (r : Recipe) (row : Row) : Brief :=
  .seal row.number row.recipe r.tAct r.pMin r.dMin r.dMax
    (row.cards.map fun c =>
      ⟨c.lane, c.reason.isSome, inhibits r c, c.summary.hits, c.summary.dose, c.summary.saturated⟩)

/-- The PUNCH brief (R119), from frozen cards. -/
def punchBrief (row : Row) : Brief :=
  .punch row.number row.recipe
    (row.cards.map fun c => ⟨c.lane, c.finalVerdict, c.reason, c.summary.inhibited⟩)

/-- A card's inhibited flag set by a queued SEAL brief (R112). -/
def inhibitCard (r : Recipe) (c : Card) : Card :=
  if inhibits r c then { c with summary := { c.summary with inhibited := true } } else c

/-- The arrival of a row at one station (R16). -/
def arriveAt (p : Port) (row : Row) (s : State) : Row × State :=
  let r := s.recipe row.recipe
  match (s.station p).role with
  | .feed => (row, (offerBrief p (feedBrief p r row) s).2)
  | .inspect => (row, (offerBrief p (inspectBrief r row) s).2)
  | .topup =>
    let offer := offerBrief p (topupBrief s.stations p r row) s
    let outcome := if offer.1 then RefillOutcome.ordered else .notDelivered
    ({ row with cards := row.cards.map (orderCard s.stations p r outcome) }, offer.2)
  | .seal =>
    let judged := if s.sealOffset = some row.offset then
      { row with cards := row.cards.map (judgeCard r row.offset) } else row
    let offer := offerBrief p (sealBrief r judged) s
    (if offer.1 then { judged with cards := judged.cards.map (inhibitCard r) } else judged, offer.2)
  | .punch =>
    let frozen := { row with cards := row.cards.map (freezeCard r row.offset) }
    (frozen, (offerBrief p (punchBrief frozen) s).2)
  | .form | .supervisor | .unassigned => (row, s)

/-- The arrivals a row takes at its new offset (R15 step 2); START lets no two stations share one (R4 check 4). -/
def arriveRow (row : Row) (s : State) : Row × State :=
  Port.all.foldl (fun x p => if (s.station p).offset = x.1.offset then arriveAt p x.1 x.2 else x) (row, s)

/-! ### Retirement -/

/-- The discharge-fault latch set by a card, keeping a fault record already held (R124). -/
def latchFault (row : Row) (c : Card) (s : State) : State :=
  if s.fault.isSome then s else { s with fault := some ⟨row.number, c.lane, c.discharge⟩ }

/-- The reconciliation of one card (R122): an absent discharge is taken as UNKNOWN. -/
def reconcile (row : Row) (c : Card) (s : State) : State :=
  match c.discharge.getD .unknown, c.finalVerdict with
  | .jammed, _ => raise everyPort .jam s
  | .goodChute, .pass => s
  | .rejectChute, .reject => s
  | .rejectChute, .pass => { s with goodLost := s.goodLost + 1 }
  | .unknown, .pass => { s with goodUnconfirmed := s.goodUnconfirmed + 1 }
  | .goodChute, .reject => announce s (latchFault row c s)
  | .unknown, .reject => announce s (latchFault row c s)

/-- The offer of a retire record to the trace queue: appended (R132), or dropped, counted and raised on every port with
TRACE (R133). -/
def offerRecord (rec : RetireRecord) (s : State) : State :=
  if s.trace.length < Config.traceSize then announce s { s with trace := s.trace ++ [rec] }
  else raise (fun p => (s.station p).perms.trace) .traceOverrun { s with cardsDropped := s.cardsDropped + 1 }

/-- One card of the retiring row: reconciled, then offered (R17). -/
def retireCard (row : Row) (s : State) (c : Card) : State :=
  offerRecord (retireRecord row (s.recipe row.recipe) s.timeTag c) (reconcile row c s)

/-- The retirement of a row: its cards in lane order, then the use count falls by one (R17). The row is left out of the
map by `takeRow`. -/
def retireRow (row : Row) (s : State) : State :=
  let s1 := row.cards.foldl (retireCard row) s
  s1.setUseCount row.recipe (s1.useCount row.recipe - 1)

/-! ### The advance -/

/-- The work of one row at its new offset (R15): closes, arrivals, and retirement at E; a row not retired goes back on
the map behind those already taken. -/
def takeRow (s : State) (row : Row) : State :=
  let arrived := arriveRow (closeRow s row) s
  if s.exitOffset = some row.offset then retireRow arrived.1 arrived.2
  else { arrived.2 with rows := arrived.2.rows ++ [arrived.1] }

/-- Every row moved one pitch (R15). -/
def moveRows (rows : List Row) : List Row := rows.map fun r => { r with offset := r.offset + 1 }

/-- The rows moved and taken one at a time, oldest first (R15). -/
def advanceRows (s : State) : State := (moveRows s.rows).foldl takeRow { s with rows := [] }

/-- The end of draining: the advance that retires the last row in DRAIN sets IDLE and raises LINE_STATE (R9). -/
def drainEnd (before after : State) : State :=
  if before.rows ≠ [] ∧ after.rows = [] then raise everyPort .lineState { after with line := .idle } else after

/-- Formation (R18): the new row last on the map, its recipe's use count and CARDS_FORMED increased, and the FORM brief
offered to the FORM port.
DESIGN CHOICE (log entry 12): the row is stamped with the time of the last accepted index. With two accepted indexes
waiting at once, which R12 excludes and the model, having no timing, reaches, the row of the first advance so carries
the second pulse's time. Of several FORM ports the lowest takes the brief, and with none there is none (log entry 19). -/
def formRow (id : RecipeId) (s : State) : State :=
  let r := s.recipe id
  let row := formedRow s.indexCount id r (s.lastIndex.getD s.timeTag)
  let s1 := { s with rows := s.rows ++ [row], cardsFormed := s.cardsFormed + BitVec.ofNat 32 row.cards.length }
  let s2 := s1.setUseCount id (s1.useCount id + 1)
  match (s2.portsWith .form).head? with
  | some p => (offerBrief p (.form row.number id row.laneMask r.cavityCount row.formed) s2).2
  | none => s2

/-- An accepted index taken up: it waits no more, and the index count increases (R13). -/
def countIndex (s : State) : State :=
  { s with advancesDue := s.advancesDue - 1, indexCount := s.indexCount + 1 }

/-- ADVANCE: the work of one accepted index (R13). With none waiting nothing happens (log entry 3). -/
def execAdvance (s : State) : Host.Outcome State Fault Refusal :=
  if s.resetHeld ∨ s.advancesDue = 0 then .next s
  else
    let s1 := countIndex s
    match s.line with
    | .idle => .next s1
    | .drain => .next (drainEnd s1 (advanceRows s1))
    | .run =>
      match s.selected with
      | none => .fault .formationWithoutRecipe
      | some id => .next (formRow id (advanceRows s1))

/-! ### INDEX_PULSE and TIME_TAG_TICK -/

/-- Every port with link UP offers a CREDIT (R13, R146). -/
def creditUpPorts (s : State) : State := s.onPorts fun _ b => if b.link = .up then b.offerCredit else b

/-- An accepted pulse (R12): its time recorded, the interval restarted, its advance due, and CREDIT offered (R13). -/
def acceptPulse (s : State) : State :=
  creditUpPorts { s with lastIndex := some s.timeTag, sinceLast := some 0, advancesDue := s.advancesDue + 1 }

/-- A glitch (R12): counted, and raised on every port. -/
def glitchPulse (s : State) : State := raise everyPort .indexGlitch { s with indexGlitches := s.indexGlitches + 1 }

/-- INDEX_PULSE (R12): ignored during autoload; accepted as the first pulse or after the minimum interval; else a
glitch. -/
def execIndexPulse (s : State) : Host.Outcome State Fault Refusal :=
  unlessHeld (fun s =>
    if s.load = .loading then s
    else match s.sinceLast with
      | none => acceptPulse s
      | some t => if s.interval ≤ t then acceptPulse s else glitchPulse s) s

/-- One millisecond on a port's link-down timer (R142, log entry 11). -/
def quietTick (b : PortBlock) : PortBlock :=
  if b.link = .up then { b with quiet := min Config.linkDownMs (b.quiet + 1) } else b

/-- TIME_TAG_TICK (R10, R11): the time tag wraps, the time since the last accepted pulse stops at 2000; the link-down
timers of UP links go on (log entry 11). -/
def execTimeTagTick (s : State) : Host.Outcome State Fault Refusal :=
  unlessHeld (fun s =>
    { s.onPorts fun _ b => quietTick b with
      timeTag := s.timeTag + 1
      sinceLast := s.sinceLast.map fun t => min Config.sinceLastStop (t + 1) }) s

end Sys2Proof.Machine
end

