-- ==== Sys2Proof/Machine/Attention.lean ====
section
/-! DEFINITION. The commands of the attention units: ATTN_STATUS_READ (R160), ATTN_ENABLE_SET and ATTN_ENABLE_CLEAR
(R159), ATTN_CLEAR (R161). Each acts on the sending port's own unit and needs no permission (R155). -/

namespace Sys2Proof.Machine

/-- ATTN_STATUS_READ (R160). -/
def execAttnStatusRead (p : Port) (tag : Octet) (s : State) : Host.Outcome State Fault Refusal :=
  serve ⟨p, tag, .attnStatusRead⟩
    (fun s => (s, .response (.attnStatusRead (s.statusSet p) (s.port p).enables (s.masked p)))) s

/-- A command that carries a condition set: any of bits 12 to 15 set is refused BAD_VALUE and changes nothing (R159). -/
def withConditions (conditions : Half) (app : CondSet → State → State × Answer) (s : State) : State × Answer :=
  match conditionsOf conditions with
  | some c => app c s
  | none => (s, .refusal .badValue 0)

/-- The application of ATTN_ENABLE_SET: the named members are added (R159). -/
def applyEnableSet (p : Port) (c : CondSet) (s : State) : State × Answer :=
  let s1 := s.onPort p fun b => { b with enables := b.enables ||| c }
  (s1, .response (.attnEnableSet (s1.port p).enables (s1.masked p)))

/-- ATTN_ENABLE_SET (R159). -/
def execAttnEnableSet (p : Port) (tag : Octet) (conditions : Half) (s : State) : Host.Outcome State Fault Refusal :=
  serve ⟨p, tag, .attnEnableSet conditions⟩ (withConditions conditions (applyEnableSet p)) s

/-- The application of ATTN_ENABLE_CLEAR: the named members are removed (R159). -/
def applyEnableClear (p : Port) (c : CondSet) (s : State) : State × Answer :=
  let s1 := s.onPort p fun b => { b with enables := b.enables &&& ~~~c }
  (s1, .response (.attnEnableClear (s1.port p).enables (s1.masked p)))

/-- ATTN_ENABLE_CLEAR (R159). -/
def execAttnEnableClear (p : Port) (tag : Octet) (conditions : Half) (s : State) : Host.Outcome State Fault Refusal :=
  serve ⟨p, tag, .attnEnableClear conditions⟩ (withConditions conditions (applyEnableClear p)) s

/-- The application of ATTN_CLEAR: the named latched events are removed; a state condition stays (R161). -/
def applyAttnClear (p : Port) (c : CondSet) (s : State) : State × Answer :=
  let s1 := s.onPort p fun b => { b with latched := b.latched &&& ~~~c }
  (s1, .response (.attnClear (s1.statusSet p) (s1.masked p)))

/-- ATTN_CLEAR (R161). -/
def execAttnClear (p : Port) (tag : Octet) (conditions : Half) (s : State) : Host.Outcome State Fault Refusal :=
  serve ⟨p, tag, .attnClear conditions⟩ (withConditions conditions (applyAttnClear p)) s

end Sys2Proof.Machine
end

