-- ==== Sys2Proof/Machine/Autoload.lean ====
section
/-! DEFINITION. Master reset (R165) and the autoload unit (R166 to R170). The EEPROM is outside the part: each read
brings the octets that the device acknowledged (log entry 15). -/

namespace Sys2Proof.Machine

/-- MASTER_RESET (R165): every block at its master-reset value, RESET_N low; all work in flight is discarded. The
model's own command queue and free-value counter go on (log entry 5). -/
def execMasterReset (s : State) : Host.Outcome State Fault Refusal :=
  .next { State.reset with pending := s.pending, freeCount := s.freeCount }

/-- RESET_RELEASE (R165): RESET_N returns high, the time tag counts from 0 and the load begins. -/
def execResetRelease (s : State) : Host.Outcome State Fault Refusal :=
  if s.resetHeld then
    .next { s with resetHeld := false, timeTag := 0, load := .loading, loadAddr := 0, loadSelected := none }
  else .next s

/-- The end of the load (R170): READY, every table as it stands.
DESIGN CHOICE (log entry 26): a mode that link loss has set OFFLINE during the load stays OFFLINE (R31), also where the
signature is wrong or absent and R167 has the tables at their defaults. -/
def endLoad (s : State) : State := { s with load := .ready, loadSelected := none }

/-- The load stopped (R169): every table it can write back at its default, LOAD_FAULT on every port, READY. -/
def stopLoad (s : State) : State :=
  raise everyPort .loadFault
    (endLoad { s with
      stations := defaultStations
      recipes := defaultRecipes
      selected := none
      arbiter := defaultArbiter
      interval := defaultInterval
      notify := defaultNotify
      holdLevel := defaultHoldLevel })

/-- The signature, high octet first (R167). -/
def signature : List Octet := [0x4D, 0x27]

/-- AUTOLOAD_SIGNATURE_READ (R167): with the signature the load goes on to the blocks; else it ends at READY with the
tables at their defaults, but for a mode that link loss has set OFFLINE since (log entry 26), and no LOAD_FAULT. -/
def execAutoloadSignatureRead (octets : List Octet) (s : State) : Host.Outcome State Fault Refusal :=
  unlessHeld (fun s =>
    if s.load = .loading ∧ s.loadAddr = 0 then
      if octets.take 2 = signature then { s with loadAddr := 2 } else endLoad s
    else s) s

/-- A station block (R168): a port number and a station entry, checked and clamped as STATION_WRITE does (R29). -/
def loadStation : List Octet → State → Option State
  | p :: entry, s =>
    match portOf p, (readStation entry).bind stationOf with
    | some q, some e => some (s.setStation q e)
    | _, _ => none
  | [], _ => none

/-- A recipe block (R62, R168): an ID and an entry in the form of RECIPE_WRITE, with its refusals and clamps. -/
def loadRecipe : List Octet → State → Option State
  | id :: entry, s =>
    match recipeIdOf id, readRecipe entry with
    | some id, some r =>
      if recipeRefusal r = none then some { s with recipes := s.recipes.set id.val (storedRecipe r) id.isLt } else none
    | _, _ => none
  | [], _ => none

/-- An arbiter block (R168). -/
def loadArbiter (body : List Octet) (s : State) : Option State :=
  (readPhases body).map fun v => { s with arbiter := storedArbiter v }

/-- A levels and interval block (R168): interval, notify level, hold level, each clamped. -/
def loadLevels : List Octet → State → Option State
  | [a, b, c, d, e, f], s =>
    some { s with
      interval := storedInterval (half a b)
      notify := storedNotify (half c d)
      holdLevel := storedHoldLevel (half e f) }
  | _, _ => none

/-- A selected-recipe block (R168): held until the terminator. -/
def loadSelection : List Octet → State → Option State
  | [id], s => some { s with loadSelected := some id }
  | _, _ => none

/-- A block checked and applied by its type (R168); none is refused. -/
def loadBlock (type : Octet) (body : List Octet) (s : State) : Option State :=
  match type.toNat with
  | 1 => loadStation body s
  | 2 => loadRecipe body s
  | 3 => loadArbiter body s
  | 4 => loadLevels body s
  | 5 => loadSelection body s
  | _ => none

/-- The terminator (R170): at an address outside the image a bad length (R167); else the selected-recipe block is
checked, the selection set, and the load ends. -/
def terminate (s : State) : State :=
  if Config.imageSize ≤ s.loadAddr then stopLoad s
  else match s.loadSelected with
    | none => endLoad s
    | some o =>
      match recipeIdOf o with
      | some id => if (s.recipe id).valid then endLoad { s with selected := some id } else stopLoad s
      | none => stopLoad s

/-- One block read (R167, R168): a device that stops acknowledging, a block beyond address 2047 and a refused block stop
the load (R169); else the block is applied and the next address is read. A type octet of 00h is the terminator (section
11.3, log entry 25). -/
def takeBlock (octets : List Octet) (s : State) : State :=
  match octets with
  | [] => stopLoad s
  | type :: rest =>
    if type = 0 then terminate s
    else match rest with
      | [] => stopLoad s
      | len :: more =>
        if more.length < len.toNat ∨ Config.imageSize < s.loadAddr + 2 + len.toNat then stopLoad s
        else match loadBlock type (more.take len.toNat) s with
          | some s1 => { s1 with loadAddr := s.loadAddr + 2 + len.toNat }
          | none => stopLoad s

/-- The unit is reading blocks: LOADING, the signature read (R167). -/
def readingBlocks (s : State) : Bool := s.load == .loading && s.loadAddr != 0

/-- AUTOLOAD_BLOCK_READ (R168). -/
def execAutoloadBlockRead (octets : List Octet) (s : State) : Host.Outcome State Fault Refusal :=
  unlessHeld (fun s => if readingBlocks s then takeBlock octets s else s) s

/-- AUTOLOAD_TERMINATOR (R170). -/
def execAutoloadTerminator (s : State) : Host.Outcome State Fault Refusal :=
  unlessHeld (fun s => if readingBlocks s then terminate s else s) s

end Sys2Proof.Machine
end

