-- ==== Sys2Proof/Machine/Line.lean ====
section
/-! DEFINITION. The commands of OPERATE: START with its nine checks (R3 to R5), STOP_FORMING (R6), SELECT_RECIPE (R7),
PURGE (R8), CONDEMN (R120), RELEASE_HOLD (R126). -/

namespace Sys2Proof.Machine

/-- Commands that need OPERATE (R155). -/
def withOperate (p : Port) (app : State → State × Answer) : State → State × Answer := withPermission (·.operate) p app

/-- The line state set, with LINE_STATE latched on every port (R2); the ATTENTIONs follow the answer (R148). -/
def changeLine (line : LineState) (s : State) : State := latchOn everyPort .lineState { s with line := line }

/-! ### START -/

/-- Where the window of a port's station closes: its offset plus its window (R35). -/
def State.closeOffset (s : State) (p : Port) : Nat := (s.station p).offset + (s.station p).window

/-- The lowest SEAL offset (R4, R5). -/
def lowestSeal (s : State) : Option Nat := ((s.portsWith .seal).map fun p => (s.station p).offset).min?

/-- The INSPECT port of lowest offset (R4 check 9). -/
def lowestInspect (s : State) : Option Port :=
  (s.portsWith .inspect).find? fun p => (s.portsWith .inspect).all fun q => (s.station p).offset ≤ (s.station q).offset

/-- The ports whose role has a place on the line. -/
def linePorts (s : State) : List Port := Port.all.filter fun p => (s.station p).role.onLine

/-- Check 1: exactly one FORM entry, at offset 0. -/
def startCheck1 (s : State) : Bool :=
  match s.portsWith .form with
  | [p] => (s.station p).offset == 0
  | _ => false

/-- Check 2: exactly one PUNCH entry, closing at 63 or before. -/
def startCheck2 (s : State) : Bool :=
  match s.portsWith .punch with
  | [p] => s.closeOffset p ≤ 63
  | _ => false

/-- Check 3: one or two SEAL entries. -/
def startCheck3 (s : State) : Bool := (s.portsWith .seal).length == 1 || (s.portsWith .seal).length == 2

/-- Check 4: no two entries of FORM to PUNCH at one offset. -/
def startCheck4 (s : State) : Bool := decide ((linePorts s).map fun p => (s.station p).offset).Nodup

/-- Check 5: every FORM, FEED, INSPECT and TOPUP window closes at S1 or before. -/
def startCheck5 (s : State) : Bool :=
  match lowestSeal s with
  | some s1 =>
    (s.portsWith .form ++ s.portsWith .feed ++ s.portsWith .inspect ++ s.portsWith .topup).all fun p =>
      s.closeOffset p ≤ s1
  | none => false

/-- Check 6: every SEAL window closes at the PUNCH offset or before. -/
def startCheck6 (s : State) : Bool :=
  (s.portsWith .seal).all fun p => (s.portsWith .punch).all fun q => s.closeOffset p ≤ (s.station q).offset

/-- Check 7: at most 4 FEED and TOPUP, 3 INSPECT, 2 TOPUP entries. -/
def startCheck7 (s : State) : Bool :=
  (s.portsWith .feed).length + (s.portsWith .topup).length ≤ 4 && (s.portsWith .inspect).length ≤ 3 &&
    (s.portsWith .topup).length ≤ 2

/-- Check 8: a valid recipe is selected, its feeders are none or FEED ports, and a verify flag needs an INSPECT entry. -/
def startCheck8 (s : State) : Bool :=
  match s.selected with
  | some id =>
    let r := s.recipe id
    r.valid && r.cavities.all (fun c => match c.feeder with
      | some q => (s.station q).role == .feed
      | none => true) && (!r.cavities.any (·.verify) || !(s.portsWith .inspect).isEmpty)
  | none => false

/-- Check 9: with a TOPUP entry there is an INSPECT entry, and every TOPUP offset is greater than the close of the
lowest-offset INSPECT entry. -/
def startCheck9 (s : State) : Bool :=
  (s.portsWith .topup).isEmpty ||
    match lowestInspect s with
    | some q => (s.portsWith .topup).all fun p => s.closeOffset q < (s.station p).offset
    | none => false

/-- The nine checks of R4 in order. -/
def startChecks (s : State) : List Bool :=
  [startCheck1 s, startCheck2 s, startCheck3 s, startCheck4 s, startCheck5 s, startCheck6 s, startCheck7 s,
    startCheck8 s, startCheck9 s]

/-- The number of the first check that fails, counted from `n`. -/
def firstFailing : Nat → List Bool → Option Nat
  | _, [] => none
  | n, ok :: rest => if ok then firstFailing (n + 1) rest else some n

/-- E as a passing START fixes it: the PUNCH entry's offset plus its window (R5). -/
def startExit (s : State) : Option Nat := (s.portsWith .punch).head?.map s.closeOffset

/-- The application of START (R3, R5). -/
def applyStart (s : State) : State × Answer :=
  if s.line = .run then (s, .response (.start .run s.exitOffset s.sealOffset))
  else match firstFailing 1 (startChecks s) with
    | some n => (s, .refusal .configInvalid n)
    | none =>
      let s1 := { s with exitOffset := startExit s, sealOffset := lowestSeal s }
      (changeLine .run s1, .response (.start .run s1.exitOffset s1.sealOffset))

/-- START (R3). -/
def execStart (p : Port) (tag : Octet) (s : State) : Host.Outcome State Fault Refusal :=
  serve ⟨p, tag, .start⟩ (withOperate p applyStart) s

/-! ### STOP_FORMING, SELECT_RECIPE, PURGE -/

/-- The application of STOP_FORMING (R6). -/
def applyStopForming (s : State) : State × Answer :=
  if s.line = .run then
    let line := if s.rows = [] then LineState.idle else .drain
    (changeLine line s, .response (.stopForming line))
  else (s, .response (.stopForming s.line))

/-- STOP_FORMING (R6). -/
def execStopForming (p : Port) (tag : Octet) (s : State) : Host.Outcome State Fault Refusal :=
  serve ⟨p, tag, .stopForming⟩ (withOperate p applyStopForming) s

/-- The application of SELECT_RECIPE (R7). -/
def applySelectRecipe (id : Octet) (s : State) : State × Answer :=
  match recipeIdOf id with
  | none => (s, .refusal .badValue 0)
  | some id =>
    if (s.recipe id).valid then ({ s with selected := some id }, .response (.selectRecipe id))
    else (s, .refusal .recipeInvalid 0)

/-- SELECT_RECIPE (R7). -/
def execSelectRecipe (p : Port) (tag : Octet) (id : Octet) (s : State) : Host.Outcome State Fault Refusal :=
  serve ⟨p, tag, .selectRecipe id⟩ (withOperate p (applySelectRecipe id)) s

/-- The cards on the map. -/
def cardsOnMap (rows : List Row) : Nat := (rows.map fun r => r.cards.length).sum

/-- The application of PURGE (R8): the map emptied, CARDS_PURGED increased, use counts 0, E and S1 absent, IDLE, and
LINE_STATE on every port. -/
def applyPurge (s : State) : State × Answer :=
  let cards := cardsOnMap s.rows
  (changeLine .idle { s with
      rows := []
      cardsPurged := s.cardsPurged + BitVec.ofNat 32 cards
      useCounts := Vector.replicate 16 0
      exitOffset := none
      sealOffset := none },
    .response (.purge s.rows.length cards))

/-- PURGE (R8). -/
def execPurge (p : Port) (tag : Octet) (s : State) : Host.Outcome State Fault Refusal :=
  serve ⟨p, tag, .purge⟩ (withOperate p applyPurge) s

/-! ### CONDEMN and RELEASE_HOLD -/

/-- A row number lies in the range from `first` upward, `count` numbers modulo 2 to the power 32 (R120). -/
def inRowRange (first : Word) (count : Nat) (number : Word) : Bool := (number - first).toNat < count

/-- A card is taken by CONDEMN: its lane is in the command's mask and in the row's (R120). -/
def lanesMeet (mask : Octet) (row : Row) (c : Card) : Bool := mask.getLsbD c.lane.val && row.laneMask.getLsbD c.lane.val

/-- A card taken is condemned when it is neither FROZEN nor condemned (R120). -/
def openToCondemn (c : Card) : Bool := c.state != .frozen && c.reason.isNone

/-- One row of the range under CONDEMN (R120). -/
def condemnRow (mask : Octet) (row : Row) : Row :=
  { row with cards := row.cards.map fun c => if lanesMeet mask row c then c.condemn .operator none row.offset else c }

/-- The cards of a row that CONDEMN takes and that pass a test. -/
def countTaken (mask : Octet) (test : Card → Bool) (row : Row) : Nat :=
  (row.cards.filter fun c => lanesMeet mask row c && test c).length

/-- The application of CONDEMN (R120). -/
def applyCondemn (first : Word) (count mask : Octet) (s : State) : State × Answer :=
  if count.toNat = 0 ∨ 64 < count.toNat then (s, .refusal .badValue 0)
  else if mask.toNat = 0 ∨ 15 < mask.toNat then (s, .refusal .badValue 0)
  else
    let found := s.rows.filter fun r => inRowRange first count.toNat r.number
    ({ s with rows := s.rows.map fun r => if inRowRange first count.toNat r.number then condemnRow mask r else r },
      .response (.condemn found.length (found.map (countTaken mask openToCondemn)).sum
        (found.map (countTaken mask fun c => !openToCondemn c)).sum))

/-- CONDEMN (R120). -/
def execCondemn (p : Port) (tag : Octet) (first : Word) (count mask : Octet) (s : State) :
    Host.Outcome State Fault Refusal :=
  serve ⟨p, tag, .condemn first count mask⟩ (withOperate p (applyCondemn first count mask)) s

/-- The application of RELEASE_HOLD (R126): the latch cleared, the fault record returned. -/
def applyReleaseHold (s : State) : State × Answer := ({ s with fault := none }, .response (.releaseHold s.fault))

/-- RELEASE_HOLD (R126). -/
def execReleaseHold (p : Port) (tag : Octet) (s : State) : Host.Outcome State Fault Refusal :=
  serve ⟨p, tag, .releaseHold⟩ (withOperate p applyReleaseHold) s

end Sys2Proof.Machine
end

