-- ==== Sys2Proof/Machine/Layouts.lean ====
section
/-! DEFINITION. The octet layouts of section 9.7 for what the part sends: RESPONSEs, REFUSALs, briefs, the retire record
and the card record. The bits a layout does not name are marked as unnamed (log entry 7), and so are the octets that an
absent inspection record leaves without a value (log entry 8). -/

namespace Sys2Proof.Machine

/-! ### Codes -/

/-- A port, or none as 15. -/
def portCode (p : Option Port) : Nat := (p.map portNat).getD 15

/-- A reason by its number in the table of section 7.1, or absent as 0. -/
def reasonCode : Option Reason → Nat
  | none => 0
  | some .splice => 1 | some .formFault => 2 | some .noReport => 3 | some .wrongItem => 4 | some .orientation => 5
  | some .overCount => 6 | some .shortCount => 7 | some .refillExhausted => 8 | some .notInspected => 9
  | some .sealPressure => 10 | some .sealLow => 11 | some .sealHigh => 12 | some .operator => 13

/-- A refusal code's value (R156). -/
def codeOctet : Code → Octet
  | .notReady => 1 | .unknownRow => 2 | .early => 3 | .late => 4 | .forbidden => 5 | .offline => 6 | .malformed => 7
  | .badValue => 8 | .inUse => 9 | .lineActive => 10 | .configInvalid => 11 | .recipeInvalid => 12

def roleOctet : Role → Octet
  | .unassigned => 0 | .form => 1 | .feed => 2 | .inspect => 3 | .topup => 4 | .seal => 5 | .punch => 6
  | .supervisor => 7

def lineOctet : LineState → Octet
  | .idle => 0 | .run => 1 | .drain => 2

def linkOctet : Link → Octet
  | .down => 0 | .up => 1

def modeOctet : Mode → Octet
  | .offline => 0 | .active => 1

def stateCode : CardState → Nat
  | .opened => 0 | .judged => 1 | .frozen => 2

/-- A verdict as a card record carries it: 0 absent, 1 PASS, 2 REJECT. -/
def verdictCode : Option Verdict → Nat
  | none => 0 | some .pass => 1 | some .reject => 2

/-- A verdict as a retire record and a PUNCH brief carry it: bit 5, 0 PASS, 1 REJECT. -/
def rejectBit : Verdict → Nat
  | .pass => 0 | .reject => 32

/-- A discharge as the records carry it. -/
def dischargeCode : Option Discharge → Nat
  | none => 0 | some .goodChute => 1 | some .rejectChute => 2 | some .jammed => 3 | some .unknown => 4

def formCode : Option FormOutcome → Nat
  | none => 0 | some .good => 1 | some .thin => 2 | some .notFormed => 3

def refillCode : Option RefillOutcome → Nat
  | none => 0 | some .ordered => 1 | some .placed => 2 | some .notDelivered => 3 | some .noReport => 4

def orientationCode : Orientation → Nat
  | .ok => 0 | .reversed => 1 | .undetermined => 2

/-- A one-octet value that may be absent: 255 for absent. -/
def optOctet (n : Option Nat) : Octet := octet (n.getD 255)

/-- A 32-bit value that may be absent: a presence octet, then the value, or zeros. -/
def optWord : Option Word → List Octet
  | some w => 1 :: wordOctets w
  | none => 0 :: wordOctets 0

/-- A condition set in two octets, bits 0 to 11; bits 12 to 15 unnamed. -/
def condOctets (c : CondSet) : List OutOctet :=
  [⟨(c.setWidth 16).extractLsb' 8 8, 0xF0⟩, ⟨(c.setWidth 16).extractLsb' 0 8, 0⟩]

/-- A lane in bits 7 and 6 of a packed octet. -/
def laneBits (l : Fin 4) : Nat := l.val * 64

/-! ### Entries and records -/

/-- A permission set: bits 0 to 2 for OPERATE, CONFIG and TRACE. -/
def permsOctet (p : Perms) : OutOctet := packed 0xF8 (flagAt 0 p.operate + flagAt 1 p.config + flagAt 2 p.trace)

/-- A station entry, 6 octets. -/
def stationOctets (e : Station) : List OutOctet :=
  named [roleOctet e.role, octet e.offset, octet e.window, flagOctet e.required, modeOctet e.mode]
    ++ [permsOctet e.perms]

/-- A cavity entry of a recipe, 6 octets; a feeder of none is 255. -/
def specOctets (c : CavitySpec) : List Octet :=
  [octet c.cls, octet c.required, octet c.overTol, octet ((c.feeder.map portNat).getD 255), flagOctet c.verify,
    flagOctet c.orient]

/-- A recipe entry of 15 octets, its count and its cavity entries. -/
def recipeOctets (r : Recipe) : List Octet :=
  [flagOctet r.valid] ++ halfOctets r.customer
    ++ [octet r.laneMask.toNat, octet r.cavityCount, flagOctet r.recover, octet r.refillLimit]
    ++ natHalf r.tAct ++ natHalf r.dMin ++ natHalf r.dMax ++ natHalf r.pMin
    ++ [octet r.cavityCount] ++ r.cavities.flatMap specOctets

/-- The seal summary, 5 octets. -/
def summaryOctets (s : Seal) : List Octet :=
  [octet (s.hits * 16 + flagAt 3 s.saturated + flagAt 2 s.clamped + flagAt 1 s.inhibited
    + flagAt 0 s.minPressure.isSome)] ++ natHalf s.dose ++ natHalf (s.minPressure.getD 0)

/-- A retire record. -/
def retireOctets (r : RetireRecord) : List OutOctet :=
  named (wordOctets r.row)
    ++ [packed 0x18 (laneBits r.lane + rejectBit r.verdict + dischargeCode r.discharge)]
    ++ named ([octet r.recipe.val] ++ halfOctets r.customer ++ [octet (reasonCode r.reason * 16 + portCode r.station)]
      ++ wordOctets r.formed ++ wordOctets r.retired ++ summaryOctets r.summary ++ [octet r.counts.length])
    ++ (r.counts.zip r.attempts).map fun x => packed 0x0C (x.1 * 16 + x.2)

/-- The inspection octets of a cavity in the card record, with no value named when the record is absent (log entry 8). -/
def inspectionOctets : Option Inspection → List OutOctet
  | some i => [packed 0 (i.classSeen * 4 + orientationCode i.orientation), packed 0x0F (i.count * 16)]
  | none => [packed 0xFF 0, packed 0xFF 0]

/-- A cavity in the card record: 5 octets, then one for each placement entry. -/
def cavityOctets (c : Cavity) : List OutOctet :=
  [packed 0x08 (formCode c.form * 64 + c.attempts * 16 + c.placements.length),
    packed 0x08 (c.count * 16 + refillCode c.refill),
    packed 0 (portCode c.orderedBy * 16 + portCode (c.inspection.map (·.station)))]
    ++ inspectionOctets c.inspection ++ c.placements.map fun e => packed 0x10 (portNat e.station * 32 + e.count)

/-- A set of ports, one bit per port (section 9.7).
DESIGN CHOICE (log entry 27): the section does not say which bit is which port; bit n is port n, 1 for a member. -/
def portSetOctet (v : PerPort Bool) : Octet :=
  octet ((Port.all.map fun p => flagAt (portNat p) (v.get p)).sum)

/-- The strike tallies of the lower and the higher SEAL port, 4 bits each; a half without a station has no value named
(log entry 10). -/
def talliesOctet (low high : Option Nat) : OutOctet :=
  ⟨octet (low.getD 0 * 16 + high.getD 0), (if low = none then 0xF0 else 0) ||| (if high = none then 0x0F else 0)⟩

/-- The card record. -/
def cardOctets (r : CardReport) : List OutOctet :=
  named (wordOctets r.row ++ [octet r.offset, octet r.recipe.val])
    ++ [packed 0x03 (laneBits r.card.lane + stateCode r.card.state * 16 + verdictCode r.card.verdict * 4),
      packed 0x08 (reasonCode r.card.reason * 16 + dischargeCode r.card.discharge)]
    ++ named ([octet (portCode r.card.station), optOctet r.card.condemnOffset, portSetOctet r.card.reported]
      ++ summaryOctets r.card.summary)
    ++ [talliesOctet r.lowTally r.highTally, packed 0 r.card.cavities.length]
    ++ r.card.cavities.flatMap cavityOctets

/-! ### Briefs -/

/-- A BRIEF payload, which opens with the role of the brief. -/
def briefOctets : Brief → List OutOctet
  | .form row recipe mask count formed =>
    named ([roleOctet .form] ++ wordOctets row ++ [octet recipe.val, octet mask.toNat, octet count] ++ wordOctets formed)
  | .feed row recipe mask cards =>
    named ([roleOctet .feed] ++ wordOctets row ++ [octet recipe.val, octet mask.toNat]) ++ cards.flatMap fun c =>
      [packed 0x3E (laneBits c.lane + flagAt 0 c.condemned), packed 0 c.cavities.length]
        ++ c.cavities.flatMap fun x => [packed 0 (x.1 * 16 + x.2.1), packed 0xC0 x.2.2]
  | .inspect row recipe mask cards =>
    named ([roleOctet .inspect] ++ wordOctets row ++ [octet recipe.val, octet mask.toNat]) ++ cards.flatMap fun c =>
      [packed 0x3E (laneBits c.lane + flagAt 0 c.condemned)] ++ c.cavities.flatMap fun x =>
        [packed 0 (x.cls * 4 + flagAt 1 x.verify + flagAt 0 x.orient), packed 0 (x.required * 16 + x.count)]
  | .topup row recipe lines =>
    named ([roleOctet .topup] ++ wordOctets row ++ [octet recipe.val, octet lines.length] ++ lines.flatMap fun l =>
      natHalf (l.lane.val * 16384 + l.cavity * 1024 + l.missing * 64 + l.cls))
  | .seal row recipe tAct pMin dMin dMax cards =>
    named ([roleOctet .seal] ++ wordOctets row ++ [octet recipe.val] ++ natHalf tAct ++ natHalf pMin ++ natHalf dMin
      ++ natHalf dMax ++ [octet cards.length]) ++ cards.flatMap fun c =>
        [packed 0x38 (laneBits c.lane + flagAt 2 c.condemned + flagAt 1 c.inhibited + flagAt 0 c.saturated)]
          ++ named ([octet c.hits] ++ natHalf c.dose)
  | .punch row recipe cards =>
    named ([roleOctet .punch] ++ wordOctets row ++ [octet recipe.val, octet cards.length]) ++ cards.flatMap fun c =>
      [packed 0x1E (laneBits c.lane + rejectBit c.verdict + flagAt 0 c.inhibited), packed 0 (reasonCode c.reason)]

/-! ### RESPONSEs -/

/-- The kind octet of the request a RESPONSE answers, which opens its payload. -/
def responseKind : Response → Octet
  | .start .. => 0x10 | .stopForming .. => 0x11 | .selectRecipe .. => 0x12 | .purge .. => 0x13 | .condemn .. => 0x14
  | .releaseHold .. => 0x15 | .stationModeSet .. => 0x16 | .stationWrite .. => 0x17 | .recipeWrite .. => 0x18
  | .indexIntervalSet .. => 0x19 | .traceLevelsSet .. => 0x1A | .arbiterWrite .. => 0x1B | .retireRead .. => 0x1C
  | .lineStatus .. => 0x1D | .stationRead .. => 0x1E | .recipeRead .. => 0x1F | .cardQuery .. => 0x20
  | .rowQuery .. => 0x21 | .traceStatus .. => 0x22 | .countersRead .. => 0x23 | .arbiterRead .. => 0x24
  | .attnStatusRead .. => 0x25 | .attnEnableSet .. => 0x26 | .attnEnableClear .. => 0x27 | .attnClear .. => 0x28

/-- The port numbers of an arbiter table. -/
def phaseOctets (v : Vector Port 32) : List Octet := v.toList.map fun p => octet (portNat p)

/-- The fault record in a RELEASE_HOLD RESPONSE: the flag that the latch was set, then the record, or zeros. -/
def faultOctets : Option FaultRecord → List Octet
  | some f => [1] ++ wordOctets f.row ++ [octet f.lane.val, octet (dischargeCode f.discharge)]
  | none => [0] ++ wordOctets 0 ++ [0, 0]

/-- What follows the kind octet in a LINE_STATUS RESPONSE. -/
def lineOctets (r : LineReport) : List Octet :=
  [lineOctet r.line] ++ wordOctets r.indexCount ++ optWord r.lastIndex ++ wordOctets r.timeTag ++ natHalf r.interval
    ++ [optOctet (r.selected.map (·.val)), optOctet r.exitOffset, optOctet r.sealOffset, octet r.rowCount]
    ++ (match r.ends with
      | some (low, high) => [1] ++ wordOctets low ++ wordOctets high
      | none => [0] ++ wordOctets 0 ++ wordOctets 0)
    ++ r.useCounts.toList.map octet

/-- What follows the kind octet in a TRACE_STATUS RESPONSE. -/
def traceOctets (r : TraceReport) : List OutOctet :=
  named (natHalf r.occupancy ++ natHalf r.free ++ natHalf r.notify ++ natHalf r.holdLevel)
    ++ [packed 0xFC (flagAt 0 r.ready + flagAt 1 r.hold)]
    ++ named (match r.oldest with
      | some (row, lane) => [1] ++ wordOctets row ++ [octet lane.val]
      | none => [0] ++ wordOctets 0 ++ [0])

/-- What follows the kind octet in a RESPONSE payload (section 9.7). -/
def responseOctets : Response → List OutOctet
  | .start line e s1 => named [lineOctet line, optOctet e, optOctet s1]
  | .stopForming line => named [lineOctet line]
  | .selectRecipe id => named [octet id.val]
  | .purge rows cards => named [octet rows, octet cards]
  | .condemn rows condemned notApplied => named [octet rows, octet condemned, octet notApplied]
  | .releaseHold fault => named (faultOctets fault)
  | .stationModeSet p m => named [octet (portNat p), modeOctet m]
  | .stationWrite p e => named [octet (portNat p)] ++ stationOctets e
  | .recipeWrite id r use => named ([octet id.val] ++ recipeOctets r ++ [octet use])
  | .indexIntervalSet n => named (natHalf n)
  | .traceLevelsSet n h occ => named (natHalf n ++ natHalf h ++ natHalf occ)
  | .arbiterWrite v => named (phaseOctets v)
  | .retireRead occ records => named ([octet records.length] ++ natHalf occ) ++ records.flatMap retireOctets
  | .lineStatus r => named (lineOctets r)
  | .stationRead entries =>
    entries.flatMap fun e => named [octet (portNat e.port)] ++ stationOctets e.entry ++ named [linkOctet e.link]
  | .recipeRead id r use selected => named ([octet id.val] ++ recipeOctets r ++ [octet use, flagOctet selected])
  | .cardQuery r => cardOctets r
  | .rowQuery row offset recipe mask formed cards =>
    named (wordOctets row ++ [octet offset, octet recipe.val, octet mask.toNat] ++ wordOctets formed
      ++ [octet cards.length]) ++ cards.flatMap fun c =>
        [packed 0x03 (laneBits c.lane + stateCode c.state * 16 + verdictCode c.verdict * 4),
          packed 0 (reasonCode c.reason)]
  | .traceStatus r => traceOctets r
  | .countersRead counters => named (counters.flatMap wordOctets)
  | .arbiterRead v phase => named (phaseOctets v ++ [octet phase.val])
  | .attnStatusRead a b c => condOctets a ++ condOctets b ++ condOctets c
  | .attnEnableSet a b => condOctets a ++ condOctets b
  | .attnEnableClear a b => condOctets a ++ condOctets b
  | .attnClear a b => condOctets a ++ condOctets b

/-! ### Frames as sent -/

/-- The kind octet of an outbound message (section 9.7). -/
def messageKind : Message → Octet
  | .response .. => 0x40 | .refusal .. => 0x41 | .brief .. => 0x42 | .credit => 0x43 | .attention => 0x44

/-- The payload of an outbound message; an ATTENTION carries the masked status given (R149). -/
def messageOctets (masked : CondSet) : Message → List OutOctet
  | .response _ r => named [responseKind r] ++ responseOctets r
  | .refusal _ kind code detail => named [kind, codeOctet code, octet detail]
  | .brief b => briefOctets b
  | .credit => []
  | .attention => condOctets masked

/-- The tag of an outbound message: that of the request answered (R63, R156, log entry 9), else the free value given
(log entry 6). -/
def messageTag (free : Octet) : Message → Octet
  | .response tag _ => tag
  | .refusal tag .. => tag
  | .brief _ | .credit | .attention => free

/-- The octets of a frame on the wire, between its flags: escaped, with the check (R143, section 9.7). -/
def OutFrame.wire (f : OutFrame) : List Octet := wireFrame f.kind f.tag f.credit f.payload

end Sys2Proof.Machine
end

