-- ==== Sys2Proof/Machine/Link.lean ====
section
/-! DEFINITION. The port blocks and the arbiter: FRAME_RECEIVE (R142, R143, R145), IDLE_FILL_RECEIVE (R142), LINK_DOWN
(R144), FRAME_SEND_START (R146, R147), FRAME_SEND_COMPLETE (R147, R149), ARBITER_GRANT (R150, R151). -/

namespace Sys2Proof.Machine

/-! ### Receiving -/

/-- A bad frame (R143): discarded, counted in LINK_ERRORS and raised on the port. -/
def badFrame (p : Port) (s : State) : State :=
  announce s (s.onPort p fun b => latch .linkError { heard b with linkErrors := b.linkErrors + 1 })

/-- FRAME_RECEIVE (R143): a bad frame is discarded; a good one brings a DOWN link UP and is offered to the inbound
queue. No octets between two flags are idle fill (R142, log entry 16). -/
def execFrameReceive (p : Port) (octets : List Octet) (s : State) : Host.Outcome State Fault Refusal :=
  unlessHeld (fun s =>
    if octets = [] then s.onPort p heard
    else match readFrame octets with
      | none => badFrame p s
      | some r => receiveRequest p r s) s

/-- IDLE_FILL_RECEIVE (R142): the link-down timer of an UP link restarts, and nothing else changes. -/
def execIdleFillReceive (p : Port) (s : State) : Host.Outcome State Fault Refusal :=
  unlessHeld (fun s => s.onPort p heard) s

/-! ### Link down -/

/-- A port block at link down (R144): queues emptied, the frame being sent and the mark discarded, credit 16, events and
enables cleared; reservations and counters kept (R147, R157). -/
def downBlock (b : PortBlock) : PortBlock :=
  { b with
    link := .down
    quiet := 0
    inbound := []
    outbound := []
    sending := none
    credit := Config.inboundSize
    attnPending := false
    latched := 0
    enables := 0 }

/-- A port declared DOWN (R144), its station's mode OFFLINE (R31). -/
def takeDown (p : Port) (s : State) : State :=
  (s.onPort p downBlock).setStation p { s.station p with mode := .offline }

/-- LINK_DOWN (R142, R144): an UP link on which 10 ms have passed with no octet goes DOWN. With octets heard since, the
event has not come about and nothing happens (log entries 3 and 11). -/
def execLinkDown (p : Port) (s : State) : Host.Outcome State Fault Refusal :=
  unlessHeld (fun s =>
    if (s.port p).link = .up ∧ Config.linkDownMs ≤ (s.port p).quiet then takeDown p s else s) s

/-! ### Sending -/

/-- The frame of a message as its sending begins (R146, R149); its free values are those of its number among the frames
sent (log entries 6 and 7). -/
def stampFrame (s : State) (p : Port) (m : Message) : OutFrame where
  kind := messageKind m
  tag := messageTag (Config.unsolicitedTag s.freeCount) m
  credit := octet (s.port p).inboundFree
  payload := settle (Config.unnamedBits s.freeCount) 0 (messageOctets (s.masked p) m)

/-- The sending of the oldest message begins: its frame is stamped, and the credit state takes the free space it
carries (R146). -/
def startSending (p : Port) (m : Message) (s : State) : State :=
  { s.onPort p fun b => { b with sending := some (stampFrame s p m), credit := b.inboundFree } with
    freeCount := s.freeCount + 1 }

/-- FRAME_SEND_START (R147): on an UP link with no frame being sent, the oldest queued message. -/
def execFrameSendStart (p : Port) (s : State) : Host.Outcome State Fault Refusal :=
  unlessHeld (fun s =>
    match (s.port p).outbound.head? with
    | some m => if (s.port p).link = .up ∧ (s.port p).sending = none then startSending p m s else s
    | none => s) s

/-- The last octet of the frame being sent has gone: its entry is free, and a pending ATTENTION takes it (R147, R149). -/
def finishSending (b : PortBlock) : PortBlock :=
  let freed := { b with outbound := b.outbound.tail, sending := none }
  if b.attnPending then { freed.place .attention with attnPending := false } else freed

/-- FRAME_SEND_COMPLETE (R147, R149). -/
def execFrameSendComplete (p : Port) (s : State) : Host.Outcome State Fault Refusal :=
  unlessHeld (fun s => if (s.port p).sending.isSome then s.onPort p finishSending else s) s

/-! ### The arbiter -/

/-- ARBITER_GRANT (R151). -/
def execArbiterGrant (s : State) : Host.Outcome State Fault Refusal := unlessHeld grantNext s

end Sys2Proof.Machine
end

