-- ==== Sys2Proof/Machine/Queries.lean ====
section
/-! DEFINITION. RETIRE_READ (R136) and the queries: LINE_STATUS (R20), STATION_READ (R28), RECIPE_READ (R52),
CARD_QUERY (R128), ROW_QUERY (R129), TRACE_STATUS (R139), COUNTERS_READ (R157), ARBITER_READ (R152). -/

namespace Sys2Proof.Machine

/-- A query's application: it changes nothing and is answered. -/
def query (answer : State → Answer) (s : State) : State × Answer := (s, answer s)

/-- The application of RETIRE_READ after its permission (R136 cases 3 and 4). -/
def applyRetireRead (count : Octet) (s : State) : State × Answer :=
  if count.toNat ≠ 1 ∧ count.toNat ≠ 2 then (s, .refusal .badValue 0)
  else
    let records := s.trace.take count.toNat
    let left := s.trace.drop count.toNat
    ({ s with trace := left, cardsRead := s.cardsRead + BitVec.ofNat 32 records.length },
      .response (.retireRead left.length records))

/-- RETIRE_READ (R136, R137), which needs TRACE (R155). -/
def execRetireRead (p : Port) (tag : Octet) (count : Octet) (s : State) : Host.Outcome State Fault Refusal :=
  serve ⟨p, tag, .retireRead count⟩ (withPermission (·.trace) p (applyRetireRead count)) s

/-- The row numbers at the lowest and the highest offset, absent on an empty map (R20). Rows stand oldest first. -/
def rowEnds (rows : List Row) : Option (Word × Word) :=
  match rows.head?, rows.getLast? with
  | some high, some low => some (low.number, high.number)
  | _, _ => none

/-- What LINE_STATUS reports (R20). -/
def lineReport (s : State) : LineReport where
  line := s.line
  indexCount := s.indexCount
  lastIndex := s.lastIndex
  timeTag := s.timeTag
  interval := s.interval
  selected := s.selected
  exitOffset := s.exitOffset
  sealOffset := s.sealOffset
  rowCount := s.rows.length
  ends := rowEnds s.rows
  useCounts := s.useCounts

/-- LINE_STATUS (R20). -/
def execLineStatus (p : Port) (tag : Octet) (s : State) : Host.Outcome State Fault Refusal :=
  serve ⟨p, tag, .lineStatus⟩ (query fun s => .response (.lineStatus (lineReport s))) s

/-- What STATION_READ reports of a port (R28). -/
def stationReport (s : State) (p : Port) : StationReport := ⟨p, s.station p, (s.port p).link⟩

/-- The answer of STATION_READ (R28): one entry, or all eight in port order for 255. -/
def stationAnswer (target : Octet) (s : State) : Answer :=
  if target.toNat = 255 then .response (.stationRead (Port.all.map (stationReport s)))
  else match portOf target with
    | some q => .response (.stationRead [stationReport s q])
    | none => .refusal .badValue 0

/-- STATION_READ (R28). -/
def execStationRead (p : Port) (tag : Octet) (target : Octet) (s : State) : Host.Outcome State Fault Refusal :=
  serve ⟨p, tag, .stationRead target⟩ (query (stationAnswer target)) s

/-- The answer of RECIPE_READ (R52). -/
def recipeAnswer (id : Octet) (s : State) : Answer :=
  match recipeIdOf id with
  | some id => .response (.recipeRead id (s.recipe id) (s.useCount id) (decide (s.selected = some id)))
  | none => .refusal .badValue 0

/-- RECIPE_READ (R52). -/
def execRecipeRead (p : Port) (tag : Octet) (id : Octet) (s : State) : Host.Outcome State Fault Refusal :=
  serve ⟨p, tag, .recipeRead id⟩ (query (recipeAnswer id)) s

/-- The strike tallies of the lower and the higher SEAL port (section 9.7); none where there is no such station,
and the two lowest where there are more, which START refuses (log entry 10). -/
def sealTallies (s : State) (c : Card) : Option Nat × Option Nat :=
  match s.portsWith .seal with
  | a :: b :: _ => (some (c.tallies.get a), some (c.tallies.get b))
  | [a] => (some (c.tallies.get a), none)
  | [] => (none, none)

/-- What CARD_QUERY reports of a card (R128). -/
def cardReport (s : State) (row : Row) (c : Card) : CardReport :=
  ⟨row.number, row.offset, row.recipe, c, (sealTallies s c).1, (sealTallies s c).2⟩

/-- The answer of CARD_QUERY (R128). -/
def cardAnswer (number : Word) (lane : Octet) (s : State) : Answer :=
  match s.findRow number with
  | none => .refusal .unknownRow 0
  | some row =>
    match (laneIn row lane).bind row.card with
    | none => .refusal .malformed 0
    | some c => .response (.cardQuery (cardReport s row c))

/-- CARD_QUERY (R128). -/
def execCardQuery (p : Port) (tag : Octet) (row : Word) (lane : Octet) (s : State) :
    Host.Outcome State Fault Refusal :=
  serve ⟨p, tag, .cardQuery row lane⟩ (query (cardAnswer row lane)) s

/-- What ROW_QUERY reports of a card (R129). -/
def rowCard (c : Card) : RowCard := ⟨c.lane, c.state, c.verdict, c.reason⟩

/-- The answer of ROW_QUERY (R129). -/
def rowAnswer (offset : Octet) (s : State) : Answer :=
  if 63 < offset.toNat then .refusal .badValue 0
  else match s.rows.find? fun r => r.offset = offset.toNat with
    | none => .refusal .unknownRow 0
    | some row => .response (.rowQuery row.number row.offset row.recipe row.laneMask row.formed (row.cards.map rowCard))

/-- ROW_QUERY (R129). -/
def execRowQuery (p : Port) (tag : Octet) (offset : Octet) (s : State) : Host.Outcome State Fault Refusal :=
  serve ⟨p, tag, .rowQuery offset⟩ (query (rowAnswer offset)) s

/-- What TRACE_STATUS reports (R139). -/
def traceReport (s : State) : TraceReport where
  occupancy := s.trace.length
  free := s.traceFree
  notify := s.notify
  holdLevel := s.holdLevel
  ready := s.traceReady
  hold := s.holdCondition
  oldest := s.trace.head?.map fun r => (r.row, r.lane)

/-- TRACE_STATUS (R139). -/
def execTraceStatus (p : Port) (tag : Octet) (s : State) : Host.Outcome State Fault Refusal :=
  serve ⟨p, tag, .traceStatus⟩ (query fun s => .response (.traceStatus (traceReport s))) s

/-- The twelve counters in the order of R157. -/
def counterList (s : State) (q : Port) : List Word :=
  [s.cardsFormed, s.cardsPurged, s.cardsDropped, s.cardsRead, s.indexCount, s.indexGlitches, s.goodLost,
    s.goodUnconfirmed, (s.port q).linkErrors, (s.port q).briefLost, (s.port q).refusalLost, (s.port q).inboundOverruns]

/-- The answer of COUNTERS_READ (R157). -/
def countersAnswer (target : Octet) (s : State) : Answer :=
  match portOf target with
  | some q => .response (.countersRead (counterList s q))
  | none => .refusal .badValue 0

/-- COUNTERS_READ (R157). -/
def execCountersRead (p : Port) (tag : Octet) (target : Octet) (s : State) : Host.Outcome State Fault Refusal :=
  serve ⟨p, tag, .countersRead target⟩ (query (countersAnswer target)) s

/-- ARBITER_READ (R152). -/
def execArbiterRead (p : Port) (tag : Octet) (s : State) : Host.Outcome State Fault Refusal :=
  serve ⟨p, tag, .arbiterRead⟩ (query fun s => .response (.arbiterRead s.arbiter s.phase)) s

end Sys2Proof.Machine
end

