-- ==== Sys2Proof/Machine/Reports.lean ====
section
/-! DEFINITION. The five reports (spec 04, 06, 07): admission by the checks of R34 in order, the validation of each kind
(R64), and the application (R66) with the judgement unit's work of Machine/Cards.lean. -/

namespace Sys2Proof.Machine

/-- Checks 1 to 4 of R34: role, mode, row, window. The refusal's code and detail, or the row. -/
def screenReport (permitted : Role → Bool) (p : Port) (number : Word) (s : State) : Except (Code × Nat) Row :=
  let e := s.station p
  if permitted e.role = false then .error (.forbidden, 0)
  else if e.mode = .offline then .error (.offline, 0)
  else match s.findRow number with
    | none => .error (.unknownRow, 0)
    | some row =>
      if row.offset < e.offset then .error (.early, row.offset)
      else if e.offset + e.window ≤ row.offset then .error (.late, row.offset)
      else .ok row

/-- The port joins the card's reported set (R24, R66). -/
def joinReported (p : Port) (c : Card) : Card := { c with reported := c.reported.set p true }

/-- A report taken by the request engine: checks 1 to 4 of R34, the lane (R64 step 1), the kind's own steps 2 to 5, and
then its application to the one card it names, after the port has joined the reported set (R66). -/
def takeReport (permitted : Role → Bool) (p : Port) (number : Word) (lane : Octet)
    (check : Row → Recipe → Card → Option Code) (app : State → Row → Recipe → Card → Card) (s : State) :
    State × Answer :=
  match screenReport permitted p number s with
  | .error (code, detail) => (s, .refusal code detail)
  | .ok row =>
    match laneIn row lane with
    | none => (s, .refusal .malformed 0)
    | some l =>
      match row.card l with
      | none => (s, .refusal .malformed 0)
      | some c =>
        match check row (s.recipe row.recipe) c with
        | some code => (s, .refusal code 0)
        | none =>
          ({ s with rows := updateCard number l (fun c => app s row (s.recipe row.recipe) (joinReported p c)) s.rows },
            .nothing)

/-- Validation of a FORM_RESULT (R67): one outcome per cavity, then the values. -/
def checkForm (splice : Octet) (outcomes : List Octet) (r : Recipe) : Option Code :=
  if outcomes.length ≠ r.cavityCount then some .malformed
  else if flagOf splice = none ∨ outcomes.any (fun o => (formOutcomeOf o).isNone) then some .badValue
  else none

/-- The list shape and the cavity indices of a PLACEMENT or INSPECTION (R64 steps 2 and 3): 1 to 12 entries, each
cavity less than the cavity count, none named twice. -/
def checkCavities (cavities : List Nat) (r : Recipe) : Option Code :=
  if cavities = [] ∨ 12 < cavities.length then some .malformed
  else if cavities.any (fun i => decide (r.cavityCount ≤ i)) ∨ ¬ cavities.Nodup then some .malformed
  else none

/-- Validation of an INSPECTION (R74): the list, then class seen and orientation. -/
def checkInspection (entries : List InspectEntry) (r : Recipe) : Option Code :=
  match checkCavities (entries.map fun e => e.cavity.toNat) r with
  | some code => some code
  | none =>
    if entries.any fun e => decide (63 < e.classSeen.toNat) || (orientationOf e.orientation).isNone then some .badValue
    else none

/-- Validation of a SEAL_HIT (R79, R80): the sealed flag, then the strike limit. -/
def checkSealHit (p : Port) (sealed : Octet) (c : Card) : Option Code :=
  if flagOf sealed = none then some .badValue
  else if Config.strikeLimit ≤ c.tallies.get p then some .malformed
  else none

/-- Validation of a DISCHARGE (R81). -/
def checkDischarge (outcome : Octet) : Option Code := if dischargeOf outcome = none then some .badValue else none

/-- FORM_RESULT (R67, R68), permitted to FORM (R33). -/
def execFormResult (p : Port) (tag : Octet) (row : Word) (lane splice : Octet) (outcomes : List Octet) (s : State) :
    Host.Outcome State Fault Refusal :=
  serve ⟨p, tag, .formResult row lane splice outcomes⟩
    (takeReport (· == .form) p row lane (fun _ r _ => checkForm splice outcomes r)
      (fun _ row _ => applyForm p row.offset (splice == 1) (outcomes.filterMap formOutcomeOf))) s

/-- PLACEMENT (R70, R71, R73), permitted to FEED and TOPUP (R33). -/
def execPlacement (p : Port) (tag : Octet) (row : Word) (lane : Octet) (pairs : List PlacePair) (s : State) :
    Host.Outcome State Fault Refusal :=
  serve ⟨p, tag, .placement row lane pairs⟩
    (takeReport (fun role => role == .feed || role == .topup) p row lane
      (fun _ r _ => checkCavities (pairs.map fun e => e.cavity.toNat) r)
      (fun s _ _ => applyPlacement s.stations p pairs)) s

/-- INSPECTION (R74 to R77), permitted to INSPECT (R33). -/
def execInspection (p : Port) (tag : Octet) (row : Word) (lane : Octet) (entries : List InspectEntry) (s : State) :
    Host.Outcome State Fault Refusal :=
  serve ⟨p, tag, .inspection row lane entries⟩
    (takeReport (· == .inspect) p row lane (fun _ r _ => checkInspection entries r)
      (fun s row r => applyInspection s.stations p row.offset r entries)) s

/-- SEAL_HIT (R79, R80, R103 to R109), permitted to SEAL (R33). -/
def execSealHit (p : Port) (tag : Octet) (row : Word) (lane sealed : Octet) (temperature dwell pressure : Half)
    (s : State) : Host.Outcome State Fault Refusal :=
  serve ⟨p, tag, .sealHit row lane sealed temperature dwell pressure⟩
    (takeReport (· == .seal) p row lane (fun _ _ c => checkSealHit p sealed c)
      (fun _ row r => applySealHit p row.offset r (sealed == 1) temperature.toNat dwell.toNat pressure.toNat)) s

/-- DISCHARGE (R81, R82), permitted to PUNCH (R33). -/
def execDischarge (p : Port) (tag : Octet) (row : Word) (lane outcome : Octet) (s : State) :
    Host.Outcome State Fault Refusal :=
  serve ⟨p, tag, .discharge row lane outcome⟩
    (takeReport (· == .punch) p row lane (fun _ _ _ => checkDischarge outcome)
      (fun _ _ _ c => { c with discharge := dischargeOf outcome })) s

end Sys2Proof.Machine
end

