-- ==== Sys2Proof/Machine/Settings.lean ====
section
/-! DEFINITION. The commands that write the tables: STATION_MODE_SET (R30), STATION_WRITE (R29), RECIPE_WRITE (R50),
INDEX_INTERVAL_SET (R11), TRACE_LEVELS_SET (R134), ARBITER_WRITE (R152). -/

namespace Sys2Proof.Machine

/-- Commands that need CONFIG (R155). -/
def withConfig (p : Port) (app : State → State × Answer) : State → State × Answer := withPermission (·.config) p app

/-- The application of STATION_MODE_SET (R30): the sender's own port needs no permission. -/
def applyStationModeSet (p : Port) (target mode : Octet) (s : State) : State × Answer :=
  if target.toNat ≠ portNat p ∧ (s.station p).perms.operate = false then (s, .refusal .forbidden 0)
  else match portOf target, modeOf mode with
    | some q, some m => (s.setStation q { s.station q with mode := m }, .response (.stationModeSet q m))
    | _, _ => (s, .refusal .badValue 0)

/-- STATION_MODE_SET (R30). -/
def execStationModeSet (p : Port) (tag : Octet) (target mode : Octet) (s : State) : Host.Outcome State Fault Refusal :=
  serve ⟨p, tag, .stationModeSet target mode⟩ (applyStationModeSet p target mode) s

/-- The application of STATION_WRITE after its permission (R29 cases 2 to 6). -/
def applyStationWrite (target : Octet) (entry : StationArg) (s : State) : State × Answer :=
  if s.line ≠ .idle then (s, .refusal .lineActive 0)
  else match portOf target, stationOf entry with
    | some q, some e => (s.setStation q e, .response (.stationWrite q e))
    | _, _ => (s, .refusal .badValue 0)

/-- STATION_WRITE (R29). -/
def execStationWrite (p : Port) (tag : Octet) (target : Octet) (entry : StationArg) (s : State) :
    Host.Outcome State Fault Refusal :=
  serve ⟨p, tag, .stationWrite target entry⟩ (withConfig p (applyStationWrite target entry)) s

/-- The state with one recipe entry replaced. -/
def State.setRecipe (s : State) (id : RecipeId) (r : Recipe) : State :=
  { s with recipes := s.recipes.set id.val r id.isLt }

/-- The application of RECIPE_WRITE after its permission (R50 cases 2 to 8). -/
def applyRecipeWrite (id : Octet) (recipe : RecipeArg) (s : State) : State × Answer :=
  match recipeIdOf id with
  | none => (s, .refusal .badValue 0)
  | some id =>
    if s.useCount id ≠ 0 then (s, .refusal .inUse 0)
    else if s.selected = some id ∧ s.line = .run then (s, .refusal .inUse 0)
    else match recipeRefusal recipe with
      | some code => (s, .refusal code 0)
      | none =>
        (s.setRecipe id (storedRecipe recipe), .response (.recipeWrite id (storedRecipe recipe) (s.useCount id)))

/-- RECIPE_WRITE (R50). -/
def execRecipeWrite (p : Port) (tag : Octet) (id : Octet) (recipe : RecipeArg) (s : State) :
    Host.Outcome State Fault Refusal :=
  serve ⟨p, tag, .recipeWrite id recipe⟩ (withConfig p (applyRecipeWrite id recipe)) s

/-- INDEX_INTERVAL_SET (R11): the clamped interval. -/
def execIndexIntervalSet (p : Port) (tag : Octet) (interval : Half) (s : State) : Host.Outcome State Fault Refusal :=
  serve ⟨p, tag, .indexIntervalSet interval⟩
    (withConfig p fun s =>
      ({ s with interval := storedInterval interval }, .response (.indexIntervalSet (storedInterval interval)))) s

/-- TRACE_LEVELS_SET (R134): both levels clamped, and both conditions follow at once (R135). -/
def execTraceLevelsSet (p : Port) (tag : Octet) (notify hold : Half) (s : State) : Host.Outcome State Fault Refusal :=
  serve ⟨p, tag, .traceLevelsSet notify hold⟩
    (withConfig p fun s =>
      ({ s with notify := storedNotify notify, holdLevel := storedHoldLevel hold },
        .response (.traceLevelsSet (storedNotify notify) (storedHoldLevel hold) s.trace.length))) s

/-- ARBITER_WRITE (R152): the table as stored; the pointer left as it was. -/
def execArbiterWrite (p : Port) (tag : Octet) (phases : Vector Octet 32) (s : State) :
    Host.Outcome State Fault Refusal :=
  serve ⟨p, tag, .arbiterWrite phases⟩
    (withConfig p fun s =>
      ({ s with arbiter := storedArbiter phases }, .response (.arbiterWrite (storedArbiter phases)))) s

end Sys2Proof.Machine
end

