-- ==== Sys2Proof/Machine/Dispatch.lean ====
section
/-! DEFINITION. Every command's meaning, one arm for each row of the table. -/

namespace Sys2Proof.Machine

def exec (i : Instr) (s : State) : Host.Outcome State Fault Refusal :=
  match i with
  | .masterReset => Sys2Proof.Machine.execMasterReset s
  | .resetRelease => Sys2Proof.Machine.execResetRelease s
  | .autoloadSignatureRead octets => Sys2Proof.Machine.execAutoloadSignatureRead octets s
  | .autoloadBlockRead octets => Sys2Proof.Machine.execAutoloadBlockRead octets s
  | .autoloadTerminator => Sys2Proof.Machine.execAutoloadTerminator s
  | .indexPulse => Sys2Proof.Machine.execIndexPulse s
  | .advance => Sys2Proof.Machine.execAdvance s
  | .frameReceive port octets => Sys2Proof.Machine.execFrameReceive port octets s
  | .linkDown port => Sys2Proof.Machine.execLinkDown port s
  | .frameSendStart port => Sys2Proof.Machine.execFrameSendStart port s
  | .frameSendComplete port => Sys2Proof.Machine.execFrameSendComplete port s
  | .arbiterGrant => Sys2Proof.Machine.execArbiterGrant s
  | .formResult port tag row lane splice outcomes => Sys2Proof.Machine.execFormResult port tag row lane splice outcomes s
  | .placement port tag row lane pairs => Sys2Proof.Machine.execPlacement port tag row lane pairs s
  | .inspection port tag row lane entries => Sys2Proof.Machine.execInspection port tag row lane entries s
  | .sealHit port tag row lane sealed t w q => Sys2Proof.Machine.execSealHit port tag row lane sealed t w q s
  | .discharge port tag row lane outcome => Sys2Proof.Machine.execDischarge port tag row lane outcome s
  | .start port tag => Sys2Proof.Machine.execStart port tag s
  | .stopForming port tag => Sys2Proof.Machine.execStopForming port tag s
  | .selectRecipe port tag id => Sys2Proof.Machine.execSelectRecipe port tag id s
  | .purge port tag => Sys2Proof.Machine.execPurge port tag s
  | .condemn port tag first count mask => Sys2Proof.Machine.execCondemn port tag first count mask s
  | .releaseHold port tag => Sys2Proof.Machine.execReleaseHold port tag s
  | .stationModeSet port tag target mode => Sys2Proof.Machine.execStationModeSet port tag target mode s
  | .stationWrite port tag target entry => Sys2Proof.Machine.execStationWrite port tag target entry s
  | .recipeWrite port tag id recipe => Sys2Proof.Machine.execRecipeWrite port tag id recipe s
  | .indexIntervalSet port tag interval => Sys2Proof.Machine.execIndexIntervalSet port tag interval s
  | .traceLevelsSet port tag notify hold => Sys2Proof.Machine.execTraceLevelsSet port tag notify hold s
  | .arbiterWrite port tag phases => Sys2Proof.Machine.execArbiterWrite port tag phases s
  | .retireRead port tag count => Sys2Proof.Machine.execRetireRead port tag count s
  | .lineStatus port tag => Sys2Proof.Machine.execLineStatus port tag s
  | .stationRead port tag target => Sys2Proof.Machine.execStationRead port tag target s
  | .recipeRead port tag id => Sys2Proof.Machine.execRecipeRead port tag id s
  | .cardQuery port tag row lane => Sys2Proof.Machine.execCardQuery port tag row lane s
  | .rowQuery port tag offset => Sys2Proof.Machine.execRowQuery port tag offset s
  | .traceStatus port tag => Sys2Proof.Machine.execTraceStatus port tag s
  | .countersRead port tag target => Sys2Proof.Machine.execCountersRead port tag target s
  | .arbiterRead port tag => Sys2Proof.Machine.execArbiterRead port tag s
  | .attnStatusRead port tag => Sys2Proof.Machine.execAttnStatusRead port tag s
  | .attnEnableSet port tag conditions => Sys2Proof.Machine.execAttnEnableSet port tag conditions s
  | .attnEnableClear port tag conditions => Sys2Proof.Machine.execAttnEnableClear port tag conditions s
  | .attnClear port tag conditions => Sys2Proof.Machine.execAttnClear port tag conditions s
  | .timeTagTick => Sys2Proof.Machine.execTimeTagTick s
  | .idleFillReceive port => Sys2Proof.Machine.execIdleFillReceive port s

end Sys2Proof.Machine
end

