-- ==== Sys2Proof/Safety.lean ====
section
/-! DEFINITION. The terms the statements are written in: requests in service and how they end, and the invariants of
the part. -/

namespace Sys2Proof.Machine

/-! ### Requests -/

/-- The request a command applies; none for the commands that are not applications. -/
def requestOf : Instr → Option Request
  | .formResult p tag row lane splice outcomes => some ⟨p, tag, .formResult row lane splice outcomes⟩
  | .placement p tag row lane pairs => some ⟨p, tag, .placement row lane pairs⟩
  | .inspection p tag row lane entries => some ⟨p, tag, .inspection row lane entries⟩
  | .sealHit p tag row lane sealed t w q => some ⟨p, tag, .sealHit row lane sealed t w q⟩
  | .discharge p tag row lane outcome => some ⟨p, tag, .discharge row lane outcome⟩
  | .start p tag => some ⟨p, tag, .start⟩
  | .stopForming p tag => some ⟨p, tag, .stopForming⟩
  | .selectRecipe p tag id => some ⟨p, tag, .selectRecipe id⟩
  | .purge p tag => some ⟨p, tag, .purge⟩
  | .condemn p tag first count mask => some ⟨p, tag, .condemn first count mask⟩
  | .releaseHold p tag => some ⟨p, tag, .releaseHold⟩
  | .stationModeSet p tag target mode => some ⟨p, tag, .stationModeSet target mode⟩
  | .stationWrite p tag target entry => some ⟨p, tag, .stationWrite target entry⟩
  | .recipeWrite p tag id recipe => some ⟨p, tag, .recipeWrite id recipe⟩
  | .indexIntervalSet p tag interval => some ⟨p, tag, .indexIntervalSet interval⟩
  | .traceLevelsSet p tag notify hold => some ⟨p, tag, .traceLevelsSet notify hold⟩
  | .arbiterWrite p tag phases => some ⟨p, tag, .arbiterWrite phases⟩
  | .retireRead p tag count => some ⟨p, tag, .retireRead count⟩
  | .lineStatus p tag => some ⟨p, tag, .lineStatus⟩
  | .stationRead p tag target => some ⟨p, tag, .stationRead target⟩
  | .recipeRead p tag id => some ⟨p, tag, .recipeRead id⟩
  | .cardQuery p tag row lane => some ⟨p, tag, .cardQuery row lane⟩
  | .rowQuery p tag offset => some ⟨p, tag, .rowQuery offset⟩
  | .traceStatus p tag => some ⟨p, tag, .traceStatus⟩
  | .countersRead p tag target => some ⟨p, tag, .countersRead target⟩
  | .arbiterRead p tag => some ⟨p, tag, .arbiterRead⟩
  | .attnStatusRead p tag => some ⟨p, tag, .attnStatusRead⟩
  | .attnEnableSet p tag c => some ⟨p, tag, .attnEnableSet c⟩
  | .attnEnableClear p tag c => some ⟨p, tag, .attnEnableClear c⟩
  | .attnClear p tag c => some ⟨p, tag, .attnClear c⟩
  | .masterReset | .resetRelease | .autoloadSignatureRead _ | .autoloadBlockRead _ | .autoloadTerminator | .indexPulse
  | .advance | .frameReceive .. | .linkDown _ | .frameSendStart _ | .frameSendComplete _ | .arbiterGrant | .timeTagTick
  | .idleFillReceive _ => none

/-- The engine holds the request, and the part is out of reset and out of autoload: the request is applied by its own
rule (R153, R165, R166). -/
def InService (r : Request) (s : State) : Prop := s.resetHeld = false ∧ s.load = .ready ∧ s.engine = some r

/-- The end of an application that changes `s` to `s1`: the engine free, the answer placed, then the ATTENTIONs that the
change from `s` causes (R148, R153, R162). -/
def finished (r : Request) (a : Answer) (s s1 : State) : State := announce s (placeAnswer r a { s1 with engine := none })

/-- The end of a refused request: no state of the part changes but the answer's (R156). -/
def refused (r : Request) (code : Code) (detail : Nat) (s : State) : State := finished r (.refusal code detail) s s

/-- The permission a command needs (R155), where its need does not depend on an argument. -/
def permissionOf : ReqBody → Option (Perms → Bool)
  | .start | .stopForming | .selectRecipe _ | .purge | .condemn .. | .releaseHold => some (·.operate)
  | .stationWrite .. | .recipeWrite .. | .indexIntervalSet _ | .traceLevelsSet .. | .arbiterWrite _ => some (·.config)
  | .retireRead _ => some (·.trace)
  | _ => none

/-- The row and the lane a report names (R63). -/
def reportTarget : ReqBody → Option (Word × Octet)
  | .formResult row lane .. => some (row, lane)
  | .placement row lane _ => some (row, lane)
  | .inspection row lane _ => some (row, lane)
  | .sealHit row lane .. => some (row, lane)
  | .discharge row lane _ => some (row, lane)
  | _ => none

/-- The table of R33: the report kinds a role may send. -/
def mayReport : Role → ReqBody → Bool
  | .form, .formResult .. => true
  | .feed, .placement .. => true
  | .inspect, .inspection .. => true
  | .topup, .placement .. => true
  | .seal, .sealHit .. => true
  | .punch, .discharge .. => true
  | _, _ => false

/-! ### Invariants -/

/-- The reserved entries a port must hold: one while the engine holds its non-posted request (R147). -/
def reservedFor (engine : Option Request) (p : Port) : Nat :=
  match engine with
  | some r => if r.port = p ∧ r.body.posted = false then 1 else 0
  | none => 0

/-- No queue holds more than its size (R132, R145, R147), and entries are reserved exactly for the request in service. -/
def QueuesBounded (s : State) : Prop :=
  (∀ p, (s.port p).inbound.length ≤ Config.inboundSize ∧
    (s.port p).outbound.length + (s.port p).reserved ≤ Config.outboundSize ∧
    (s.port p).reserved = reservedFor s.engine p) ∧ s.trace.length ≤ Config.traceSize

/-- The conservation of cards (R141). -/
def CardsConserved (s : State) : Prop :=
  s.cardsFormed - s.cardsPurged - s.cardsDropped - s.cardsRead
    = BitVec.ofNat 32 (cardsOnMap s.rows + s.trace.length)

/-- Each recipe's use count is the number of rows on the map formed with it (R53). -/
def UseCountsMatch (s : State) : Prop :=
  ∀ id, s.useCount id = (s.rows.filter fun r => r.recipe = id).length

/-- A card's verdict, reason and state agree (R112, R115, R118). -/
def CardSound (c : Card) : Prop :=
  (c.verdict.isSome ↔ c.state = .frozen) ∧ (c.verdict = some .pass → c.reason = none) ∧
    (c.verdict = some .reject → c.reason.isSome) ∧ (c.condemnOffset.isSome ↔ c.reason.isSome) ∧
    (c.reason = none → c.station = none) ∧ (c.summary.inhibited → c.reason.isSome)

/-- Every card on the map is sound, and no retire record with a reason says PASS (R115, R130). -/
def VerdictsSound (s : State) : Prop :=
  (∀ row ∈ s.rows, ∀ c ∈ row.cards, CardSound c) ∧
    ∀ rec ∈ s.trace, (rec.verdict = .pass → rec.reason = none) ∧ rec.counts.length = rec.attempts.length

/-- Every retire record has a reason absent exactly when its verdict is PASS (R130). -/
def TraceVerdictsExact (s : State) : Prop := ∀ rec ∈ s.trace, rec.verdict = .pass ↔ rec.reason = none

/-- The seal summary within its limits (R80, R102, R106, R109, R110). -/
def SealSound (c : Card) : Prop :=
  c.summary.dose ≤ 65535 ∧ (c.summary.saturated → c.summary.dose = 65535) ∧ (∀ p, c.tallies.get p ≤ Config.strikeLimit) ∧
    c.summary.hits ≤ (Port.all.map c.tallies.get).sum ∧ (∀ m ∈ c.summary.minPressure, m ≤ 1000)

/-- No row holds two cards of one lane (R21). -/
def OneCardPerLane (s : State) : Prop := ∀ row ∈ s.rows, (row.cards.map (·.lane)).Nodup

/-- Every card on the map has its seal summary within its limits, with strikes of SEAL stations alone, and no row holds
two cards of one lane. -/
def SealsBounded (s : State) : Prop :=
  OneCardPerLane s ∧ ∀ row ∈ s.rows, ∀ c ∈ row.cards,
    SealSound c ∧ ∀ p, (s.station p).role ≠ .seal → c.tallies.get p = 0

/-- The map and the line state agree (R1, R5, R15, R19): IDLE and every state before READY has an empty map, DRAIN a
map that is not empty; in RUN and DRAIN E is what START computes from the station table; rows stand at strictly falling
offsets below E, and each row's number plus its offset is the index count. -/
def MapSound (s : State) : Prop :=
  (s.resetHeld = true ∨ s.load = .loading → s.line = .idle) ∧
    (s.line = .idle → s.rows = []) ∧ (s.line = .drain → s.rows ≠ []) ∧
    (s.line ≠ .idle → s.exitOffset = startExit s ∧ ∃ e, s.exitOffset = some e ∧ 1 ≤ e ∧ e ≤ 63 ∧ ∀ r ∈ s.rows, r.offset < e) ∧
    s.rows.Pairwise (fun a b => b.offset < a.offset) ∧
    ∀ r ∈ s.rows, r.number + BitVec.ofNat 32 r.offset = s.indexCount

/-- A recipe in use is valid, and so is the selected recipe in RUN (R18, R51); before READY none is in use and the line
is IDLE. -/
def RecipesSound (s : State) : Prop :=
  (s.resetHeld = true ∨ s.load = .loading → s.line = .idle ∧ ∀ id, s.useCount id = 0) ∧
    (∀ id, s.useCount id ≠ 0 → (s.recipe id).valid = true) ∧
    (s.line = .run → ∃ id, s.selected = some id ∧ (s.recipe id).valid = true)

/-- A station entry within its ranges (R27). -/
def StationInRange (e : Station) : Prop := e.offset ≤ 62 ∧ 1 ≤ e.window ∧ e.window ≤ 8

/-- A cavity entry of a recipe within its ranges (R49). -/
def SpecInRange (c : CavitySpec) : Prop := 1 ≤ c.cls ∧ c.cls ≤ 63 ∧ 1 ≤ c.required ∧ c.required ≤ 15 ∧ c.overTol ≤ 3

/-- A recipe within its ranges (R48, R49). -/
def RecipeInRange (r : Recipe) : Prop :=
  r.laneMask ≠ 0 ∧ 1 ≤ r.cavityCount ∧ r.cavityCount ≤ 12 ∧ r.refillLimit ≤ 2 ∧ r.tAct ≤ 3000 ∧ r.dMin ≤ r.dMax ∧
    r.dMax ≤ 65535 ∧ r.pMin ≤ 1000 ∧ ∀ c ∈ r.cavities, SpecInRange c

/-- Every table and setting is within its ranges (R11, R27, R48, R49, R134), and the filter's time at its stop or below
(R11). -/
def TablesInRange (s : State) : Prop :=
  (∀ p, StationInRange (s.station p)) ∧ (∀ id, RecipeInRange (s.recipe id)) ∧
    (20 ≤ s.interval ∧ s.interval ≤ 2000) ∧ (1 ≤ s.notify ∧ s.notify ≤ 255) ∧
    (4 ≤ s.holdLevel ∧ s.holdLevel ≤ 128) ∧ ∀ t ∈ s.sinceLast, t ≤ Config.sinceLastStop

/-- A cavity record is what its evidence gives: the effective count of its record and entries (R84), no two entries of
one station (R71), entries of FEED and TOPUP stations and a record of an INSPECT station within their ranges (R25), and no
more refill attempts than the recipe's limit (R90). -/
def CavitySound (s : State) (r : Recipe) (cav : Cavity) : Prop :=
  cav.count = effectiveCount s.stations cav.inspection cav.placements ∧
    (cav.placements.map (·.station)).Nodup ∧
    (∀ e ∈ cav.placements,
      ((s.station e.station).role = .feed ∨ (s.station e.station).role = .topup) ∧ e.count ≤ 15) ∧
    (∀ i ∈ cav.inspection, (s.station i.station).role = .inspect ∧ i.classSeen ≤ 63 ∧ i.count ≤ 15) ∧
    cav.attempts ≤ r.refillLimit

/-- Every row on the map has the lane mask of its recipe, one card for each lane of it, and in each card one sound cavity
record for each cavity of the recipe (R25, R57). -/
def CavitiesSound (s : State) : Prop :=
  ∀ row ∈ s.rows, row.laneMask = (s.recipe row.recipe).laneMask ∧ row.cards.map (·.lane) = lanesOf row.laneMask ∧
    ∀ c ∈ row.cards, c.cavities.length = (s.recipe row.recipe).cavities.length ∧
      ∀ cav ∈ c.cavities, CavitySound s (s.recipe row.recipe) cav

/-- A reported set holds only ports of stations on the line whose window for the card's row is open (R24). -/
def ReportedOpen (s : State) : Prop :=
  ∀ row ∈ s.rows, ∀ c ∈ row.cards, ∀ p, c.reported.get p = true →
    (s.station p).role.onLine = true ∧ (s.station p).offset ≤ row.offset ∧
      row.offset < (s.station p).offset + (s.station p).window

/-! ### Reports admitted -/

/-- A report passes checks 1 to 4 of R34 and the lane step of R64, and names the card `c` of `row`: its kind is
permitted, the mode is ACTIVE, the row is on the map inside the window, and the lane is one of the row's. -/
def Admits (r : Request) (s : State) (row : Row) (l : Fin 4) (c : Card) : Prop :=
  reportTarget r.body = some (row.number, BitVec.ofNat 8 l.val) ∧ mayReport (s.station r.port).role r.body = true ∧
    (s.station r.port).mode = .active ∧ s.findRow row.number = some row ∧ (s.station r.port).offset ≤ row.offset ∧
    row.offset < (s.station r.port).offset + (s.station r.port).window ∧ row.laneMask.getLsbD l.val = true ∧
    row.card l = some c

/-- The three conditions of R89 under which a TOPUP arrival orders a cavity. -/
def WantsRefill (stations : PerPort Station) (p : Port) (r : Recipe) (spec : CavitySpec) (c : Cavity) : Prop :=
  c.count < spec.required ∧ c.attempts < r.refillLimit ∧
    ∃ i, c.inspection = some i ∧ (stations.get i.station).offset < (stations.get p).offset

/-- The failures of one cavity at the judgement pass, the table of R96. -/
def Fails (reason : Reason) (spec : CavitySpec) (c : Cavity) : Prop :=
  match reason with
  | .overCount => spec.required + spec.overTol < c.count
  | .shortCount => c.count < spec.required ∧ c.attempts = 0
  | .refillExhausted => c.count < spec.required ∧ 1 ≤ c.attempts
  | .notInspected => spec.verify = true ∧ c.inspection = none
  | _ => False

/-- Cavity `i` of a card beside its recipe entry. -/
def CavityAt (r : Recipe) (c : Card) (i : Nat) (spec : CavitySpec) (cav : Cavity) : Prop :=
  r.cavities[i]? = some spec ∧ c.cavities[i]? = some cav

/-- A reason found among all cavities of a card at the judgement pass (R96, R97). -/
def Found (r : Recipe) (c : Card) (reason : Reason) : Prop :=
  ∃ i spec cav, CavityAt r c i spec cav ∧ Fails reason spec cav

/-! ### The advance -/

/-- What a row record keeps and what an advance moves (R21). -/
def rowKey (r : Row) : Word × Nat × RecipeId × BitVec 4 × Word := (r.number, r.offset, r.recipe, r.laneMask, r.formed)

/-- A row one pitch further. -/
def moved (r : Row) : Row := { r with offset := r.offset + 1 }

/-- What no advance changes: the tables, the settings, the times, the other blocks' state, and of a port all but its
outbound queue, its pending mark, BRIEF_LOST and its latched events. -/
def AdvanceKeeps (s t : State) : Prop :=
  t.pending = s.pending ∧ t.resetHeld = s.resetHeld ∧ t.exitOffset = s.exitOffset ∧ t.sealOffset = s.sealOffset ∧
    t.lastIndex = s.lastIndex ∧ t.timeTag = s.timeTag ∧ t.interval = s.interval ∧ t.sinceLast = s.sinceLast ∧
    t.cardsPurged = s.cardsPurged ∧ t.indexGlitches = s.indexGlitches ∧ t.stations = s.stations ∧
    t.recipes = s.recipes ∧ t.selected = s.selected ∧ t.notify = s.notify ∧ t.holdLevel = s.holdLevel ∧
    t.cardsRead = s.cardsRead ∧ t.arbiter = s.arbiter ∧ t.phase = s.phase ∧ t.engine = s.engine ∧ t.load = s.load ∧
    t.loadAddr = s.loadAddr ∧ t.loadSelected = s.loadSelected ∧ t.freeCount = s.freeCount ∧
    ∀ p, (t.port p).link = (s.port p).link ∧ (t.port p).quiet = (s.port p).quiet ∧
      (t.port p).inbound = (s.port p).inbound ∧ (t.port p).reserved = (s.port p).reserved ∧
      (t.port p).sending = (s.port p).sending ∧ (t.port p).credit = (s.port p).credit ∧
      (t.port p).enables = (s.port p).enables ∧ (t.port p).linkErrors = (s.port p).linkErrors ∧
      (t.port p).inboundOverruns = (s.port p).inboundOverruns ∧ (t.port p).refusalLost = (s.port p).refusalLost

/-- What an advance that retires no row leaves alone besides: the trace queue, the counts of retirement and the latch. -/
def RetirementIdle (s t : State) : Prop :=
  t.trace = s.trace ∧ t.cardsDropped = s.cardsDropped ∧ t.goodLost = s.goodLost ∧
    t.goodUnconfirmed = s.goodUnconfirmed ∧ t.fault = s.fault

/-! ### Layouts -/

/-- The value of `n` octets of a layout from octet `i`, high octet first, where they are all named. -/
def fieldOf (l : List OutOctet) (i n : Nat) : Option Nat :=
  let octets := (l.drop i).take n
  if octets.length = n ∧ octets.all (fun o => o.unnamed == 0) then
    some (octets.foldl (fun v o => v * 256 + o.value.toNat) 0)
  else none

/-- The value of bits `hi` to `lo` of octet `i` of a layout, where they are all named. -/
def bitsOf (l : List OutOctet) (i hi lo : Nat) : Option Nat :=
  match l[i]? with
  | some o =>
    if o.unnamed.extractLsb' lo (hi + 1 - lo) = 0 then some (o.value.extractLsb' lo (hi + 1 - lo)).toNat else none
  | none => none

/-! ### The stored image -/

/-- The autoload unit is reading blocks (R166, R167). -/
def ReadingBlocks (s : State) : Prop := s.resetHeld = false ∧ s.load = .loading ∧ s.loadAddr ≠ 0

/-- A block of the image that is refused (R167, R168): the device stops acknowledging, the block lies beyond address
2047, its type is unknown, its length is not its body's, or a value of a station or recipe entry is refused. -/
def RefusedBlock (s : State) (octets : List Octet) : Prop :=
  match octets with
  | [] => True
  | [type] => type ≠ 0
  | type :: len :: more =>
    type ≠ 0 ∧
      (more.length < len.toNat ∨ Config.imageSize < s.loadAddr + 2 + len.toNat ∨ 5 < type.toNat ∨
        (type = 1 ∧ (len ≠ 7 ∨ 7 < (more.headD 0).toNat ∨
          ∀ a, readStation ((more.take 7).drop 1) = some a → stationOf a = none)) ∨
        (type = 2 ∧ (len = 0 ∨ 15 < (more.headD 0).toNat ∨
          ∀ a, readRecipe ((more.take len.toNat).drop 1) = some a → recipeRefusal a ≠ none)) ∨
        (type = 3 ∧ len ≠ 32) ∨ (type = 4 ∧ len ≠ 6) ∨ (type = 5 ∧ len ≠ 1))

/-! ### Cards and their offsets -/

/-- The state of a card in a row at an offset (R23). -/
def stateAt (s1 punch offset : Nat) : CardState :=
  if offset < s1 then .opened else if offset < punch then .judged else .frozen

/-- The checks of START that read the station table alone hold, and E and S1 are as START computes them (R4, R5). -/
def LineConfigured (s : State) : Prop :=
  startCheck1 s = true ∧ startCheck2 s = true ∧ startCheck3 s = true ∧ startCheck4 s = true ∧ startCheck5 s = true ∧
    startCheck6 s = true ∧ startCheck7 s = true ∧ startCheck9 s = true ∧ s.exitOffset = startExit s ∧
    s.sealOffset = lowestSeal s

/-- On a running or draining line every card's state is that of its row's offset (R23). -/
def StatesFollowOffsets (s : State) : Prop :=
  MapSound s ∧ (s.line ≠ .idle → LineConfigured s ∧ ∀ s1 q, s.sealOffset = some s1 → (s.station q).role = .punch →
    ∀ row ∈ s.rows, ∀ c ∈ row.cards, c.state = stateAt s1 (s.station q).offset row.offset)

/-! ### Whole-machine rules -/

/-- The commands that may change the line state (R1, R2, R165). -/
def mayChangeLine : Instr → Bool
  | .masterReset | .advance | .start .. | .stopForming .. | .purge .. => true
  | _ => false

/-- The commands that may remove a record from the trace queue (R132, R136, R165). -/
def mayShortenTrace : Instr → Bool
  | .masterReset | .retireRead .. => true
  | _ => false

/-- The commands that may clear the discharge-fault latch (R124). -/
def mayClearFault : Instr → Bool
  | .masterReset | .releaseHold .. => true
  | _ => false

/-- The commands that may change a station table entry beyond its mode (R27, R29, R169). -/
def mayWriteStations : Instr → Bool
  | .masterReset | .stationWrite .. | .autoloadBlockRead _ | .autoloadTerminator => true
  | _ => false

/-- Two station entries agree but for the mode. -/
def sameButMode (a b : Station) : Prop := { a with mode := b.mode } = b

end Sys2Proof.Machine
end

