-- ==== Sys2Proof/WellFormed.lean ====
section
/-! DEFINITION. Which commands are well formed: operands that the links and the EEPROM can deliver. A field of a
request outside its RANGE is well formed (the part refuses or clamps it); ill formed is only what no frame and no
image can carry. -/

namespace Sys2Proof

/-- The list of a request body fits a payload (section 9.7): 7 + n, 6 + 2k, 6 + 4k and 17 + 6k octets at most 128. -/
def ReqBody.wellFormed : ReqBody → Bool
  | .formResult _ _ _ outcomes => 7 + outcomes.length ≤ Config.maxPayload
  | .placement _ _ pairs => 6 + 2 * pairs.length ≤ Config.maxPayload
  | .inspection _ _ entries => 6 + 4 * entries.length ≤ Config.maxPayload
  | .recipeWrite _ recipe => 17 + 6 * recipe.cavities.length ≤ Config.maxPayload
  | _ => true

/-- Well-formed commands. A frame's octets lie between two flags, so none is the flag C5h and there is at least one
(R142: two flags with nothing between them are idle fill). The signature read delivers at most two octets (R167). A
block begins with a type octet other than the terminator 00h (section 11.3). Request lists fit a frame. -/
def Instr.wellFormed : Instr → Bool
  | .autoloadSignatureRead octets => octets.length ≤ 2
  | .autoloadBlockRead octets => octets.head? ≠ some 0x00
  | .frameReceive _ octets => octets ≠ [] && !octets.contains 0xC5
  | .formResult _ _ row lane splice outcomes => (ReqBody.formResult row lane splice outcomes).wellFormed
  | .placement _ _ row lane pairs => (ReqBody.placement row lane pairs).wellFormed
  | .inspection _ _ row lane entries => (ReqBody.inspection row lane entries).wellFormed
  | .recipeWrite _ _ id recipe => (ReqBody.recipeWrite id recipe).wellFormed
  | .masterReset | .resetRelease | .autoloadTerminator | .indexPulse | .advance | .linkDown _ | .frameSendStart _
  | .frameSendComplete _ | .arbiterGrant | .sealHit .. | .discharge .. | .start .. | .stopForming .. | .selectRecipe ..
  | .purge .. | .condemn .. | .releaseHold .. | .stationModeSet .. | .stationWrite .. | .indexIntervalSet ..
  | .traceLevelsSet .. | .arbiterWrite .. | .retireRead .. | .lineStatus .. | .stationRead .. | .recipeRead ..
  | .cardQuery .. | .rowQuery .. | .traceStatus .. | .countersRead .. | .arbiterRead .. | .attnStatusRead ..
  | .attnEnableSet .. | .attnEnableClear .. | .attnClear .. | .timeTagTick | .idleFillReceive _ => true

end Sys2Proof
end

