-- ==== Sys2Proof/Certificates/Slice0/Obligations.lean ====
section
/-! DEFINITION. The statements for the provers, each a proposition about the machine; OBLIGATIONS.json lists them. -/

open Sys2Proof Sys2Proof.Machine

/-! ### The step and the request engine -/

/-- The model's form of the queue of commands (log entry 1): a step runs the command at the front on the state with the
queue's rest, and an empty queue idles. -/
def Obligations.StepRunsFrontCommand : Prop :=
  (∀ (c : Instr) (rest : List Instr) (s : State),
    step { s with pending := c :: rest } = exec c { s with pending := rest }) ∧
  ∀ s : State, s.pending = [] → step s = .next s

/-- Service of a request (chapter 9 section 9.4, chapter 11 sections 11.1 and 11.2): while RESET_N is low every command
but the two of reset leaves the state; during autoload a request held by the engine is refused NOT_READY before any
other check. A request that the engine does not hold has first to come to the part, unless it waits in its port's inbound
queue, and a free engine is then granted the arbiter's next request: the command applies its request only if that is the
one granted. So a query or command that is not its port's oldest request, or whose outbound queue is full, stays in the
inbound queue unanswered and changes nothing but the ports, the engine and the phase pointer. That a request command
stands for the arrival of its request, that a request which waits already does not arrive again, and that the command then
brings about one grant, is the model's choice (log entries 2 and 3). -/
def Obligations.RequestServiceCases : Prop :=
  (∀ (c : Instr) (s : State), s.resetHeld = true → c ≠ .masterReset → c ≠ .resetRelease → exec c s = .next s) ∧
  ∀ (c : Instr) (r : Request) (s : State), requestOf c = some r → s.resetHeld = false →
    (s.load = .loading → s.engine = some r → exec c s = .next (refused r .notReady 0 s)) ∧
    (r.body.wellFormed = true → ∀ credit : Octet,
      exec (.frameReceive r.port (requestFrame ⟨r.tag, r.body⟩ credit)) s
        = .next (receiveRequest r.port ⟨r.tag, r.body⟩ s)) ∧
    (∀ a, ((⟨r.tag, r.body⟩ : InReq) ∈ (s.port r.port).inbound ∧ a = s ∨
          (⟨r.tag, r.body⟩ : InReq) ∉ (s.port r.port).inbound ∧ a = receiveRequest r.port ⟨r.tag, r.body⟩ s) →
      (∀ held, s.engine = some held → held ≠ r → exec c s = .next a) ∧
      (s.engine = none → ∀ g, exec .arbiterGrant a = .next g →
        (g.engine = some r → exec c s = exec c g) ∧ (g.engine ≠ some r → exec c s = .next g))) ∧
    (s.engine = none → r.body.posted = false → (s.port r.port).inbound.length < 16 →
      ((∃ x older, (s.port r.port).inbound = x :: older ∧ x ≠ ⟨r.tag, r.body⟩) ∨
        8 ≤ (s.port r.port).outbound.length + (s.port r.port).reserved) →
      ∃ t, exec c s = .next t ∧ t.engine ≠ some r ∧ (⟨r.tag, r.body⟩ : InReq) ∈ (t.port r.port).inbound ∧
        t = { s with engine := t.engine, phase := t.phase, ports := t.ports } ∧
        ∀ m ∈ (t.port r.port).outbound, m ∈ (s.port r.port).outbound ∨ m = .credit)

/-- Permissions (chapter 9 section 9.6; chapter 2 section 2.1 for the mode of another port): a command without its
permission is refused FORBIDDEN, before every case of its own rule, and changes nothing but the answer's queue. -/
def Obligations.PermissionRefusals : Prop :=
  (∀ (c : Instr) (r : Request) (s : State) (has : Perms → Bool), requestOf c = some r → InService r s →
    permissionOf r.body = some has → has (s.station r.port).perms = false →
    exec c s = .next (refused r .forbidden 0 s)) ∧
  ∀ (p : Port) (tag target mode : Octet) (s : State), InService ⟨p, tag, .stationModeSet target mode⟩ s →
    target.toNat ≠ portNat p → (s.station p).perms.operate = false →
    exec (.stationModeSet p tag target mode) s
      = .next (refused ⟨p, tag, .stationModeSet target mode⟩ .forbidden 0 s)

/-- Offers to an outbound queue and the end of an application (chapter 9 sections 9.2 to 9.4 and 9.6, chapter 10 section
10.3): what a free and a full queue make of a brief, a posted request's REFUSAL, a CREDIT and an ATTENTION, a CREDIT
adding nothing while one waits; and after an application the answer is in its entry, the engine is free, everything but
the ports and the engine is as the application left it, and an ATTENTION has been offered on exactly the ports whose
masked status went from empty to non-empty, as it is by `announce` wherever an event is raised. That the masked status
is judged before and after the whole application is the model's reading (log entry 21). -/
def Obligations.AnswersAndOffers : Prop :=
  (∀ (b : PortBlock) (m : Message),
    (b.outbound.length + b.reserved < 8 → b.offerRefusal m = { b with outbound := b.outbound ++ [m] }) ∧
    (8 ≤ b.outbound.length + b.reserved →
      b.offerRefusal m = { b with refusalLost := b.refusalLost + 1, latched := b.latched ||| 0x200 })) ∧
  (∀ b : PortBlock,
    (Message.credit ∈ b.waiting → b.offerCredit = b) ∧
    (8 ≤ b.outbound.length + b.reserved → b.offerCredit = b) ∧
    (Message.credit ∉ b.waiting → b.outbound.length + b.reserved < 8 →
      b.offerCredit = { b with outbound := b.outbound ++ [.credit] }) ∧
    (b.attnPending = true → b.offerAttention = b) ∧
    (Message.attention ∈ b.waiting → b.offerAttention = b) ∧
    (b.attnPending = false → Message.attention ∉ b.waiting → b.outbound.length + b.reserved < 8 →
      b.offerAttention = { b with outbound := b.outbound ++ [.attention] }) ∧
    (b.attnPending = false → Message.attention ∉ b.waiting → 8 ≤ b.outbound.length + b.reserved →
      b.offerAttention = { b with attnPending := true })) ∧
  (∀ (p : Port) (brief : Brief) (s : State),
    ((s.port p).outbound.length + (s.port p).reserved < 8 →
      offerBrief p brief s
        = (true, s.setPort p { s.port p with outbound := (s.port p).outbound ++ [.brief brief] })) ∧
    (8 ≤ (s.port p).outbound.length + (s.port p).reserved →
      offerBrief p brief s = (false, announce s (s.setPort p { s.port p with
        briefLost := (s.port p).briefLost + 1
        latched := (s.port p).latched ||| 0x100 })))) ∧
  (∀ (s : State) (p : Port) (b : PortBlock),
    s.setPort p b = { s with ports := (s.setPort p b).ports } ∧
    ∀ q, (s.setPort p b).port q = if q = p then b else s.port q) ∧
  (∀ (s t : State),
    announce s t = { t with ports := (announce s t).ports } ∧
    ∀ q, (announce s t).port q
      = if s.masked q = 0 ∧ t.masked q ≠ 0 then (t.port q).offerAttention else t.port q) ∧
  (∀ (choose : Port → Bool) (e : Event) (s : State),
    raise choose e s = announce s (latchOn choose e s) ∧
    latchOn choose e s = { s with ports := (latchOn choose e s).ports } ∧
    ∀ q, everyPort q = true ∧ (latchOn choose e s).port q
      = if choose q then { s.port q with latched := (s.port q).latched ||| eventBit e } else s.port q) ∧
  ∀ (r : Request) (a : Answer) (s s1 : State),
    finished r a s s1 = { s1 with engine := none, ports := (finished r a s s1).ports } ∧
    ∀ q, (finished r a s s1).port q =
      (let placed : PortBlock := if q = r.port then
        (match a with
          | .nothing => s1.port q
          | .response m => { s1.port q with
              outbound := (s1.port q).outbound ++ [.response r.tag m]
              reserved := (s1.port q).reserved - 1 }
          | .refusal code detail =>
            if r.body.posted then (s1.port q).offerRefusal (.refusal r.tag (bodyKind r.body) code detail)
            else { s1.port q with
              outbound := (s1.port q).outbound ++ [.refusal r.tag (bodyKind r.body) code detail]
              reserved := (s1.port q).reserved - 1 }) else s1.port q
       if s.masked q = 0 ∧ (s1.conditions ||| placed.latched) &&& placed.enables ≠ 0 then placed.offerAttention
       else placed)

/-! ### Reset and autoload -/

/-- Master reset (chapter 11 section 11.1 and the reset tables of chapters 1, 3, 8, 9 and 10): every block at its
master-reset value, the load state LOADING, all work in flight discarded. -/
def Obligations.MasterResetValues : Prop :=
  ∀ s : State, ∃ t, exec .masterReset s = .next t ∧
    (t.resetHeld = true ∧ t.load = .loading ∧ t.timeTag = 0 ∧ t.engine = none) ∧
    (t.line = .idle ∧ t.rows = [] ∧ t.exitOffset = none ∧ t.sealOffset = none ∧ t.indexCount = 0 ∧ t.lastIndex = none ∧
      t.advancesDue = 0 ∧ t.interval = 100 ∧ t.sinceLast = none) ∧
    (t.cardsFormed = 0 ∧ t.cardsPurged = 0 ∧ t.cardsDropped = 0 ∧ t.cardsRead = 0 ∧ t.indexGlitches = 0 ∧
      t.goodLost = 0 ∧ t.goodUnconfirmed = 0) ∧
    (∀ p, t.station p
      = if p = .p7 then ⟨.supervisor, 0, 1, false, .active, ⟨true, true, true⟩⟩
        else ⟨.unassigned, 0, 1, false, .offline, ⟨false, false, false⟩⟩) ∧
    (∀ id, t.recipe id = ⟨false, 0, 1, false, 0, 0, 0, 0, 0, [⟨1, 1, 0, none, false, false⟩]⟩ ∧ t.useCount id = 0) ∧
    (t.selected = none ∧ t.trace = [] ∧ t.notify = 64 ∧ t.holdLevel = 16 ∧ t.fault = none ∧ t.hold = false) ∧
    (∀ p, (t.port p).link = .down ∧ (t.port p).inbound = [] ∧ (t.port p).outbound = [] ∧ (t.port p).reserved = 0 ∧
      (t.port p).sending = none ∧ (t.port p).credit = 16 ∧ (t.port p).attnPending = false ∧ (t.port p).latched = 0 ∧
      (t.port p).enables = 0 ∧ (t.port p).linkErrors = 0 ∧ (t.port p).inboundOverruns = 0 ∧ (t.port p).briefLost = 0 ∧
      (t.port p).refusalLost = 0) ∧
    t.phase = 0 ∧ ∀ i : Fin 32, portNat (t.arbiter.get i) = i.val % 8

/-- The reset state meets every invariant stated below, and the reset state is what MASTER_RESET leaves. -/
def Obligations.ResetMeetsInvariants : Prop :=
  (QueuesBounded State.reset ∧ CardsConserved State.reset ∧ UseCountsMatch State.reset ∧ VerdictsSound State.reset ∧
    SealsBounded State.reset ∧ MapSound State.reset ∧ RecipesSound State.reset ∧ TablesInRange State.reset ∧
    StatesFollowOffsets State.reset ∧ TraceVerdictsExact State.reset ∧ CavitiesSound State.reset ∧
    ReportedOpen State.reset) ∧
  exec .masterReset State.reset = .next State.reset

/-- RESET_RELEASE begins the load with the time tag at 0, and the signature read takes its courses (chapter 11 sections
11.1 to 11.3): with 4D27h the blocks follow; with any other octets, or fewer, the load ends at READY with no LOAD_FAULT
and the tables as they stand, at their defaults but for a mode that link loss has set since (log entry 26). The
terminator ends the load: without a selected-recipe block the selection stays absent; with one that names a valid recipe
it is the selection; with any other, or at an address outside the image, the load stops. -/
def Obligations.LoadBeginsAndEnds : Prop :=
  (∀ s : State, s.resetHeld = true → exec .resetRelease s = .next { s with
    resetHeld := false, timeTag := 0, load := .loading, loadAddr := 0, loadSelected := none }) ∧
  (∀ (s : State) (octets : List Octet), s.resetHeld = false → s.load = .loading → s.loadAddr = 0 →
    (octets.take 2 = [0x4D, 0x27] → exec (.autoloadSignatureRead octets) s = .next { s with loadAddr := 2 }) ∧
    (octets.take 2 ≠ [0x4D, 0x27] →
      exec (.autoloadSignatureRead octets) s = .next { s with load := .ready, loadSelected := none })) ∧
  ∀ s : State, ReadingBlocks s →
    (s.loadAddr < 2048 → s.loadSelected = none →
      exec .autoloadTerminator s = .next { s with load := .ready, loadSelected := none }) ∧
    (∀ (o : Octet) (id : RecipeId), s.loadAddr < 2048 → s.loadSelected = some o → o.toNat = id.val →
      (s.recipe id).valid = true → exec .autoloadTerminator s = .next { s with
        load := .ready, loadSelected := none, selected := some id }) ∧
    (∀ (o : Octet) (id : RecipeId), s.loadAddr < 2048 → s.loadSelected = some o → o.toNat = id.val →
      (s.recipe id).valid = false → exec .autoloadTerminator s = .next (stopLoad s)) ∧
    (∀ o : Octet, s.loadAddr < 2048 → s.loadSelected = some o → 15 < o.toNat →
      exec .autoloadTerminator s = .next (stopLoad s)) ∧
    (2048 ≤ s.loadAddr → exec .autoloadTerminator s = .next (stopLoad s))

/-- A good block of each of the five types is applied at once, with its clamps, and the unit goes on behind it (chapter
11 section 11.3): which station and recipe entries are good and what is stored of them are those of STATION_WRITE and
RECIPE_WRITE. -/
def Obligations.GoodBlocksApplied : Prop :=
  (∀ (a : StationArg) (e : Station), stationOf a = some e ↔
    roleOf a.role = some e.role ∧ a.offset.toNat = e.offset ∧ e.offset ≤ 62 ∧ e.window = max 1 (min 8 a.window.toNat) ∧
    a.required = (if e.required then 1 else 0) ∧ modeOf a.mode = some e.mode ∧ a.perms.toNat ≤ 7 ∧
    e.perms = ⟨a.perms.getLsbD 0, a.perms.getLsbD 1, a.perms.getLsbD 2⟩) ∧
  (∀ a : RecipeArg,
    (recipeRefusal a = none ↔
      1 ≤ a.cavityCount.toNat ∧ a.cavityCount.toNat ≤ 12 ∧ a.cavities.length = a.cavityCount.toNat ∧
      1 ≤ a.laneMask.toNat ∧ a.laneMask.toNat ≤ 15 ∧ a.dMin.toNat ≤ a.dMax.toNat ∧ a.valid.toNat ≤ 1 ∧
      a.recover.toNat ≤ 1 ∧ ∀ c ∈ a.cavities, 1 ≤ c.cls.toNat ∧ c.cls.toNat ≤ 63 ∧ 1 ≤ c.required.toNat ∧
        c.required.toNat ≤ 15 ∧ c.verify.toNat ≤ 1 ∧ c.orient.toNat ≤ 1) ∧
    storedRecipe a =
      { valid := a.valid == 1, customer := a.customer, laneMask := BitVec.ofNat 4 a.laneMask.toNat,
        recover := a.recover == 1, refillLimit := min 2 a.refillLimit.toNat, tAct := min 3000 a.tAct.toNat,
        dMin := a.dMin.toNat, dMax := a.dMax.toNat, pMin := min 1000 a.pMin.toNat,
        cavities := a.cavities.map fun c : CavityArg =>
          { cls := c.cls.toNat, required := c.required.toNat, overTol := min 3 c.overTol.toNat,
            feeder := Port.all[c.feeder.toNat]?, verify := c.verify == 1, orient := c.orient == 1 } }) ∧
  (∀ (v : Vector Octet 32) (i : Fin 32),
    portNat ((storedArbiter v).get i) = if (v.get i).toNat ≤ 7 then (v.get i).toNat else 0) ∧
  ∀ s : State, ReadingBlocks s →
    (∀ (q : Port) (a : StationArg) (e : Station), stationOf a = some e → s.loadAddr + 9 ≤ 2048 →
      exec (.autoloadBlockRead
          [1, 7, octet (portNat q), a.role, a.offset, a.window, a.required, a.mode, a.perms]) s
        = .next { s.setStation q e with loadAddr := s.loadAddr + 9 }) ∧
    (∀ (id : RecipeId) (a : RecipeArg), recipeRefusal a = none →
      s.loadAddr + (19 + 6 * a.cavities.length) ≤ 2048 →
      exec (.autoloadBlockRead ([2, octet (17 + 6 * a.cavities.length), octet id.val] ++ recipeArgOctets a)) s
        = .next { s.setRecipe id (storedRecipe a) with loadAddr := s.loadAddr + (19 + 6 * a.cavities.length) }) ∧
    (∀ v : Vector Octet 32, s.loadAddr + 34 ≤ 2048 →
      exec (.autoloadBlockRead ([3, 32] ++ v.toList)) s
        = .next { s with arbiter := storedArbiter v, loadAddr := s.loadAddr + 34 }) ∧
    (∀ i n h : Half, s.loadAddr + 8 ≤ 2048 →
      exec (.autoloadBlockRead ([4, 6] ++ halfOctets i ++ halfOctets n ++ halfOctets h)) s = .next { s with
        interval := max 20 (min 2000 i.toNat)
        notify := max 1 (min 255 n.toNat)
        holdLevel := max 4 (min 128 h.toNat)
        loadAddr := s.loadAddr + 8 }) ∧
    ∀ o : Octet, s.loadAddr + 3 ≤ 2048 →
      exec (.autoloadBlockRead [5, 1, o]) s = .next { s with loadSelected := some o, loadAddr := s.loadAddr + 3 }

/-- A refused block stops the load (chapter 11 section 11.3): every table the load can write is at its default, LOAD_FAULT
is raised on every port, and the state is READY. -/
def Obligations.RefusedBlocksRestoreDefaults : Prop :=
  ∀ (s : State) (octets : List Octet), ReadingBlocks s → RefusedBlock s octets →
    exec (.autoloadBlockRead octets) s = .next (stopLoad s) ∧
    stopLoad s = raise everyPort .loadFault { s with
      stations := defaultStations
      recipes := defaultRecipes
      selected := none
      arbiter := defaultArbiter
      interval := 100
      notify := 64
      holdLevel := 16
      load := .ready
      loadSelected := none } ∧
    (∀ t, exec .masterReset s = .next t →
      (stopLoad s).stations = t.stations ∧ (stopLoad s).recipes = t.recipes ∧ (stopLoad s).arbiter = t.arbiter) ∧
    ∀ p, (stopLoad s).port p = (let b := { s.port p with latched := (s.port p).latched ||| 0x080 }
      if (stopLoad s).conditions &&& b.enables = 0 ∧ (s.port p).latched &&& b.enables = 0 ∧ 0x080 &&& b.enables ≠ 0
      then b.offerAttention else b)

/-! ### Pins, time and links -/

/-- The index filter (chapter 1 section 1.2): a pulse during autoload is ignored; one with no last pulse, or after at
least the minimum interval, is accepted, and leads each UP port to offer a CREDIT; any other is a glitch, counted and
raised on every port, whose latched events it joins as bit 5. That the advance of an accepted pulse waits in a count is
the model's form (log entry 12). -/
def Obligations.IndexPulseFilter : Prop :=
  ∀ s : State, s.resetHeld = false →
    (s.load = .loading → exec .indexPulse s = .next s) ∧
    (s.load = .ready → (∀ t, s.sinceLast = some t → s.interval ≤ t) → exec .indexPulse s = .next { s with
      lastIndex := some s.timeTag
      sinceLast := some 0
      advancesDue := s.advancesDue + 1
      ports := PerPort.ofFn fun p => if (s.port p).link = .up then (s.port p).offerCredit else s.port p }) ∧
    ∀ t, s.load = .ready → s.sinceLast = some t → t < s.interval →
      let glitch := raise everyPort .indexGlitch { s with indexGlitches := s.indexGlitches + 1 }
      exec .indexPulse s = .next glitch ∧ ∀ q, (glitch.port q).latched = (s.port q).latched ||| 0x020

/-- The millisecond, idle fill and link loss (chapter 1 section 1.2, chapter 2 section 2.1 for the mode, chapter 9
section 9.1): the time tag and the filter's time count, the latter up to 2000; an octet received restarts an UP link's
10 ms; after 10 ms the link is DOWN with its queues, mark, events and enables cleared, its credit at 16 and its station
OFFLINE, its counters and reservations kept. The counts in whole milliseconds, of the filter and of the 10 ms, are the
model's form (log entries 11 and 23), and so is LINK_DOWN leaving the state before the 10 ms have passed (log entry 3).
-/
def Obligations.TimersAndLinkDown : Prop :=
  ∀ s : State, s.resetHeld = false →
    exec .timeTagTick s = .next { s with
      timeTag := s.timeTag + 1
      sinceLast := s.sinceLast.map fun t => min 2000 (t + 1)
      ports := PerPort.ofFn fun p =>
        if (s.port p).link = .up then { s.port p with quiet := min 10 ((s.port p).quiet + 1) } else s.port p } ∧
    ∀ p,
      ((s.port p).link = .up → exec (.idleFillReceive p) s = .next (s.setPort p { s.port p with quiet := 0 })) ∧
      ((s.port p).link = .down → exec (.idleFillReceive p) s = .next s) ∧
      ((s.port p).link = .up → 10 ≤ (s.port p).quiet → exec (.linkDown p) s
        = .next ((s.setPort p
            { link := .down, quiet := 0, inbound := [], outbound := [], reserved := (s.port p).reserved,
              sending := none, credit := 16, attnPending := false, latched := 0, enables := 0,
              linkErrors := (s.port p).linkErrors, inboundOverruns := (s.port p).inboundOverruns,
              briefLost := (s.port p).briefLost, refusalLost := (s.port p).refusalLost }).setStation p
            { s.station p with mode := .offline })) ∧
      ((s.port p).link = .up → (s.port p).quiet < 10 → exec (.linkDown p) s = .next s)

/-- FRAME_RECEIVE (chapter 9 sections 9.1 and 9.2): a bad frame is discarded, counted in LINK_ERRORS and raised on the
port; a good one brings a DOWN link UP with a CREDIT offered, and its request enters the inbound queue at the tail, or is
discarded, counted and raised when the queue holds 16. -/
def Obligations.FrameReceiveOutcomes : Prop :=
  ∀ (p : Port) (octets : List Octet) (s : State), s.resetHeld = false → octets ≠ [] →
    (readFrame octets = none → exec (.frameReceive p octets) s
      = .next (announce s (s.setPort p { s.port p with
        quiet := if (s.port p).link = .up then 0 else (s.port p).quiet
        linkErrors := (s.port p).linkErrors + 1
        latched := (s.port p).latched ||| 0x800 }))) ∧
    ∀ r, readFrame octets = some r →
      let b : PortBlock :=
        if (s.port p).link = .down then { s.port p with link := .up, quiet := 0 }.offerCredit
        else { s.port p with quiet := 0 }
      ((s.port p).inbound.length < 16 → exec (.frameReceive p octets) s
        = .next (s.setPort p { b with inbound := b.inbound ++ [r] })) ∧
      (16 ≤ (s.port p).inbound.length → exec (.frameReceive p octets) s
        = .next (announce (s.setPort p b) (s.setPort p { b with
          inboundOverruns := b.inboundOverruns + 1
          latched := b.latched ||| 0x400 })))

/-- FRAME_SEND_START and FRAME_SEND_COMPLETE (chapter 9 sections 9.2, 9.3 and 9.7): on an UP link the oldest message is
sent, its frame stamped with the free space of the inbound queue, which the credit state takes, and an ATTENTION with
the masked status of that moment, every bit of the payload that the layouts name as they give it; when its last octet
has gone its entry is free, and a pending ATTENTION takes it. PayloadLayouts spells the layouts. The tag of a frame that
answers no request and the unnamed bits are free values (log entries 6 and 7); the header tag of a RESPONSE and a
REFUSAL (log entry 9), what the layouts give for absent values (log entries 8 and 10) and the commands that find nothing
to send (log entry 3) are the model's reading. -/
def Obligations.SendingFrames : Prop :=
  ∀ (p : Port) (s : State), s.resetHeld = false →
    (∀ m rest, (s.port p).link = .up → (s.port p).sending = none → (s.port p).outbound = m :: rest →
      ∃ t f, exec (.frameSendStart p) s = .next t ∧
        t = { s.setPort p { s.port p with sending := some f, credit := 16 - (s.port p).inbound.length } with
          freeCount := t.freeCount } ∧
        f.kind = messageKind m ∧ f.credit = octet (16 - (s.port p).inbound.length) ∧
        f.payload.length = (messageOctets (s.masked p) m).length ∧
        (∀ (i : Nat) (o : OutOctet), (messageOctets (s.masked p) m)[i]? = some o → ∃ x, f.payload[i]? = some x ∧
          x &&& ~~~o.unnamed = o.value &&& ~~~o.unnamed) ∧
        (∀ tag a, m = .response tag a → f.tag = tag) ∧
        ∀ tag kind code detail, m = .refusal tag kind code detail → f.tag = tag) ∧
    ((s.port p).outbound = [] → exec (.frameSendStart p) s = .next s) ∧
    ((s.port p).link = .down → exec (.frameSendStart p) s = .next s) ∧
    ((s.port p).sending.isSome = true → exec (.frameSendStart p) s = .next s) ∧
    ((s.port p).sending.isSome = true → (s.port p).attnPending = false → exec (.frameSendComplete p) s
      = .next (s.setPort p { s.port p with outbound := (s.port p).outbound.tail, sending := none })) ∧
    ((s.port p).sending.isSome = true → (s.port p).attnPending = true → exec (.frameSendComplete p) s
      = .next (s.setPort p { s.port p with
        outbound := (s.port p).outbound.tail ++ [.attention], sending := none, attnPending := false })) ∧
    ((s.port p).sending = none → exec (.frameSendComplete p) s = .next s)

/-- ARBITER_GRANT (chapter 9 sections 9.2 and 9.4): with the engine free, the phases are taken from the pointer onward,
and the first whose port has an eligible request grants it; the pointer moves behind it, a non-posted request reserves
an outbound entry, and a CREDIT is offered when the outbound queue holds no message and the free space exceeds the
credit state. The eligible request is the oldest, or with a full outbound queue the oldest posted one. That a reserved
entry is no message in that test is the model's reading (log entry 17), and so is the command leaving the state where
there is nothing to grant (log entry 3). -/
def Obligations.ArbiterGrants : Prop :=
  (∀ b : PortBlock,
    (∀ r rest, b.outbound.length + b.reserved < 8 → b.inbound = r :: rest → eligible b = some (r, rest)) ∧
    (∀ l r rest, 8 ≤ b.outbound.length + b.reserved → b.inbound = l ++ r :: rest →
      (∀ x ∈ l, x.body.posted = false) → r.body.posted = true → eligible b = some (r, l ++ rest)) ∧
    (8 ≤ b.outbound.length + b.reserved → (∀ x ∈ b.inbound, x.body.posted = false) → eligible b = none) ∧
    (b.inbound = [] → eligible b = none)) ∧
  ∀ s : State, s.resetHeld = false →
    (∀ r, s.engine = some r → exec .arbiterGrant s = .next s) ∧
    (s.engine = none → (∀ i : Fin 32, eligible (s.port (s.arbiter.get i)) = none) → exec .arbiterGrant s = .next s) ∧
    ∀ (k : Nat) (i : Fin 32) (r : InReq) (rest : List InReq), s.engine = none → k < 32 → i.val = (s.phase.val + k) % 32 →
      (∀ j < k, ∀ h : Fin 32, h.val = (s.phase.val + j) % 32 → eligible (s.port (s.arbiter.get h)) = none) →
      eligible (s.port (s.arbiter.get i)) = some (r, rest) →
      exec .arbiterGrant s = .next { s with
        engine := some ⟨s.arbiter.get i, r.tag, r.body⟩
        phase := ⟨(i.val + 1) % 32, Nat.mod_lt _ (by decide)⟩
        ports := s.ports.set (s.arbiter.get i) (
          let b := s.port (s.arbiter.get i)
          let b1 := { b with inbound := rest, reserved := if r.body.posted then b.reserved else b.reserved + 1 }
          if b.outbound = [] ∧ b.credit < 16 - rest.length then b1.offerCredit else b1) }

/-! ### The advance -/

/-- ADVANCE (chapter 1 section 1.3): the index count increases; the rows, moved one pitch, are taken oldest first, each
with its closes in port order, the arrival at the one station at its offset, and its retirement at E; in RUN a row is
formed last, and in DRAIN the line ends IDLE when the last row has gone. Formation puts the new row on the map, counts its
cards and its recipe's use, and offers the FORM brief with the row's number, recipe, lane mask, cavity count and formation
time to the FORM port (section 9.5). That the row and the brief carry the time of the last accepted index also while two
accepted indexes wait, a state that R12 excludes, is the model's choice (log entry 12). Which port takes the brief where
START's first check does not hold, that none does where there is no FORM port, and that an absent E retires no row, is its
choice too (log entry 19). -/
def Obligations.RowWorkInOrder : Prop :=
  (∀ s : State, s.resetHeld = false → 0 < s.advancesDue →
    (s.line = .idle → exec .advance s = .next { s with
      advancesDue := s.advancesDue - 1, indexCount := s.indexCount + 1 }) ∧
    ∀ taken, taken = (s.rows.map moved).foldl takeRow { s with
        rows := [], advancesDue := s.advancesDue - 1, indexCount := s.indexCount + 1 } →
      (s.line = .drain → (s.rows = [] ∨ taken.rows ≠ []) → exec .advance s = .next taken) ∧
      (s.line = .drain → s.rows ≠ [] → taken.rows = [] →
        exec .advance s = .next (raise everyPort .lineState { taken with line := .idle })) ∧
      ∀ id, s.line = .run → s.selected = some id → exec .advance s = .next (formRow id taken)) ∧
  ∀ (s : State) (row : Row),
    (∀ closing, closing = (Port.all.filter fun p =>
        (s.station p).role.onLine && (s.station p).offset + (s.station p).window == row.offset) →
      closeRow s row = { row with
        cards := row.cards.map fun c => closing.foldl (fun c p => closeCard s p (s.recipe row.recipe) row.offset c) c }) ∧
    (∀ p, (s.station p).offset = row.offset →
      (∀ q, q ≠ p → (s.station q).role.onLine = true → (s.station q).offset ≠ row.offset) →
      arriveRow row s = arriveAt p row s) ∧
    ((∀ q, (s.station q).role.onLine = true → (s.station q).offset ≠ row.offset) → arriveRow row s = (row, s)) ∧
    (s.exitOffset = some row.offset →
      takeRow s row = retireRow (arriveRow (closeRow s row) s).1 (arriveRow (closeRow s row) s).2) ∧
    (s.exitOffset ≠ some row.offset →
      takeRow s row = { (arriveRow (closeRow s row) s).2 with
        rows := (arriveRow (closeRow s row) s).2.rows ++ [(arriveRow (closeRow s row) s).1] }) ∧
    ∀ (id : RecipeId) (formed : Word), s.lastIndex = some formed →
      let r := s.recipe id
      let placed : State := { s with
        rows := s.rows ++ [⟨s.indexCount, 0, id, r.laneMask, formed,
          (lanesOf r.laneMask).map fun l => Card.fresh l r.cavities.length⟩]
        cardsFormed := s.cardsFormed + BitVec.ofNat 32 (lanesOf r.laneMask).length
        useCounts := s.useCounts.set id.val (s.useCount id + 1) id.isLt }
      (∀ p, (s.station p).role = .form → (∀ q, (s.station q).role = .form → portNat p ≤ portNat q) →
        formRow id s = (offerBrief p (.form s.indexCount id r.laneMask r.cavities.length formed) placed).2) ∧
      ((∀ p, (s.station p).role ≠ .form) → formRow id s = placed)

/-- What an advance does to the map as a whole (chapter 1 sections 1.3 and 1.5): every row moves one pitch and keeps its
other fields, the row that reaches E leaves, and in RUN a new row stands at offset 0 with the new index count, the
selected recipe, its lane mask and fresh cards, one for each lane of the mask in rising lane order; CARDS_FORMED grows
by its lanes, and records only join the trace queue. Nothing else changes but the ports' queues and events, the use
counts, and, in an advance that retires a row, CARDS_DROPPED, GOOD_LOST, GOOD_UNCONFIRMED and the discharge-fault latch,
whose changes ReconciliationTable and RetirementOffersRecords state; an advance that retires none leaves these, and
changes no use count but that of the row formed. Which use counts an advance that retires a row lowers is
RetirementOffersRecords' to say, not this statement's. That the new row carries the time of the last accepted index also
while two accepted indexes wait, a state that R12 excludes, is the model's choice (log entry 12), and so is that with E
absent every row stays (log entry 19). -/
def Obligations.AdvanceMovesRows : Prop :=
  (∀ m : BitVec 4, (∀ l, l ∈ lanesOf m ↔ m.getLsbD l.val = true) ∧ (lanesOf m).Pairwise (· < ·)) ∧
  ∀ s : State, s.resetHeld = false → 0 < s.advancesDue →
    (∀ id formed, s.line = .run → s.selected = some id → s.lastIndex = some formed →
      ∃ t newRow, exec .advance s = .next t ∧
        (∃ before, t.rows = before ++ [newRow] ∧
          before.map rowKey = ((s.rows.filter fun r => s.exitOffset ≠ some (r.offset + 1)).map moved).map rowKey) ∧
        rowKey newRow = (s.indexCount + 1, 0, id, (s.recipe id).laneMask, formed) ∧
        newRow.cards = (lanesOf (s.recipe id).laneMask).map (fun l =>
          { lane := l, state := .opened, reason := none, station := none, condemnOffset := none,
            summary := ⟨0, 0, false, false, none, false⟩, tallies := PerPort.all 0, verdict := none,
            discharge := none, reported := PerPort.all false,
            cavities := List.replicate (s.recipe id).cavities.length ⟨none, [], none, 0, none, none, 0⟩ }) ∧
        t.cardsFormed = s.cardsFormed + BitVec.ofNat 32 (lanesOf (s.recipe id).laneMask).length ∧
        t.line = .run ∧ t.indexCount = s.indexCount + 1 ∧ t.advancesDue = s.advancesDue - 1 ∧
        (∃ records, t.trace = s.trace ++ records) ∧ AdvanceKeeps s t ∧
        ((∀ row ∈ s.rows, s.exitOffset ≠ some (row.offset + 1)) → RetirementIdle s t ∧
          ∀ j, t.useCount j = s.useCount j + if j = id then 1 else 0)) ∧
    (s.line = .drain → ∃ t, exec .advance s = .next t ∧
      t.rows.map rowKey = ((s.rows.filter fun r => s.exitOffset ≠ some (r.offset + 1)).map moved).map rowKey ∧
      t.line = (if s.rows ≠ [] ∧ t.rows = [] then .idle else .drain) ∧ t.cardsFormed = s.cardsFormed ∧
      t.indexCount = s.indexCount + 1 ∧ t.advancesDue = s.advancesDue - 1 ∧
      (∃ records, t.trace = s.trace ++ records) ∧ AdvanceKeeps s t ∧
      ((∀ row ∈ s.rows, s.exitOffset ≠ some (row.offset + 1)) → RetirementIdle s t ∧ t.useCounts = s.useCounts))

/-- The work of a window close on one card (chapter 2 section 2.3), for each role and for a station that is not required;
after it the port has left the reported set. -/
def Obligations.WindowCloseByRole : Prop :=
  ∀ (s : State) (p : Port) (r : Recipe) (o : Nat) (c : Card),
    let leave : Card → Card := fun x => { x with reported := x.reported.set p false }
    let condemned := leave (c.condemn .noReport (some p) o)
    ((s.station p).required = false → closeCard s p r o c = leave c) ∧
    ((s.station p).required = true →
      ((s.station p).role = .form → c.reported.get p = false → closeCard s p r o c = condemned) ∧
      ((s.station p).role = .form → c.reported.get p = true → closeCard s p r o c = leave c) ∧
      ((s.station p).role = .feed →
        (∀ i spec cav, CavityAt r c i spec cav →
          (closeCard s p r o c).cavities[i]? = some
            (if spec.feeder = some p ∧ (∀ e ∈ cav.placements, e.station ≠ p) then
              { cav with
                placements := cav.placements ++ [⟨p, 0⟩]
                count := effectiveCount s.stations cav.inspection (cav.placements ++ [⟨p, 0⟩]) }
             else cav)) ∧
        ((∃ i spec cav, CavityAt r c i spec cav ∧ spec.feeder = some p ∧ spec.verify = false ∧
            ∀ e ∈ cav.placements, e.station ≠ p) →
          { closeCard s p r o c with cavities := c.cavities } = condemned) ∧
        ((∀ i spec cav, CavityAt r c i spec cav → spec.feeder = some p → spec.verify = false →
            ∃ e ∈ cav.placements, e.station = p) →
          { closeCard s p r o c with cavities := c.cavities } = leave c)) ∧
      ((s.station p).role = .inspect →
        (((∀ q, (s.station q).role = .inspect → (s.station q).offset ≤ (s.station p).offset) ∧
            ∃ i spec cav, CavityAt r c i spec cav ∧ spec.verify = true ∧ cav.inspection = none) →
          closeCard s p r o c = condemned) ∧
        ((∃ q, (s.station q).role = .inspect ∧ (s.station p).offset < (s.station q).offset) →
          closeCard s p r o c = leave c) ∧
        ((∀ i spec cav, CavityAt r c i spec cav → spec.verify = true → cav.inspection ≠ none) →
          closeCard s p r o c = leave c)) ∧
      ((s.station p).role = .topup → closeCard s p r o c = leave { c with
        cavities := c.cavities.map fun cav =>
          if cav.refill = some .ordered ∧ cav.orderedBy = some p then { cav with refill := some .noReport } else cav }) ∧
      ((s.station p).role = .seal → c.reported.get p = false → c.summary.inhibited = false →
        closeCard s p r o c = condemned) ∧
      ((s.station p).role = .seal → (c.reported.get p = true ∨ c.summary.inhibited = true) →
        closeCard s p r o c = leave c) ∧
      ((s.station p).role = .punch → c.discharge = none →
        closeCard s p r o c = leave { c with discharge := some .unknown }) ∧
      ((s.station p).role = .punch → c.discharge ≠ none → closeCard s p r o c = leave c))

/-- The arrival of a row at a station, by role (chapter 1 section 1.3; chapter 5 sections 5.2 to 5.4, chapter 6 section
6.4, chapter 7 section 7.2): what happens to the cards before the brief is built, the brief with its content, and what
the brief's fate decides on the records. -/
def Obligations.ArrivalByRole : Prop :=
  ∀ (s : State) (p : Port) (row : Row), let r := s.recipe row.recipe
    ((s.station p).role = .feed → arriveAt p row s
      = (row, (offerBrief p (.feed row.number row.recipe row.laneMask (row.cards.map fun c =>
          ⟨c.lane, c.reason.isSome,
            (r.cavities.zipIdx.filter fun x => x.1.feeder = some p).map fun x => (x.2, x.1.required, x.1.cls)⟩)) s).2)) ∧
    ((s.station p).role = .inspect → arriveAt p row s
      = (row, (offerBrief p (.inspect row.number row.recipe row.laneMask (row.cards.map fun c =>
          ⟨c.lane, c.reason.isSome,
            (r.cavities.zip c.cavities).map fun x =>
              ⟨x.1.cls, x.1.verify, x.1.orient, x.1.required, x.2.count⟩⟩)) s).2)) ∧
    ((s.station p).role = .topup →
      let offer := offerBrief p (.topup row.number row.recipe (row.cards.flatMap (cardLines s.stations p r))) s
      (offer.1 = true → arriveAt p row s
        = ({ row with cards := row.cards.map (orderCard s.stations p r .ordered) }, offer.2)) ∧
      (offer.1 = false → arriveAt p row s
        = ({ row with cards := row.cards.map (orderCard s.stations p r .notDelivered) }, offer.2))) ∧
    ((s.station p).role = .seal →
      let cards := if s.sealOffset = some row.offset then row.cards.map (judgeCard r row.offset) else row.cards
      let offer := offerBrief p (.seal row.number row.recipe r.tAct r.pMin r.dMin r.dMax (cards.map fun c =>
        ⟨c.lane, c.reason.isSome, r.recover && c.reason.isSome, c.summary.hits, c.summary.dose,
          c.summary.saturated⟩)) s
      (offer.1 = true → arriveAt p row s = ({ row with cards := cards.map fun c =>
        if r.recover = true ∧ c.reason ≠ none then { c with summary := { c.summary with inhibited := true } } else c },
        offer.2)) ∧
      (offer.1 = false → arriveAt p row s = ({ row with cards := cards }, offer.2))) ∧
    ((s.station p).role = .punch →
      let cards := row.cards.map (freezeCard r row.offset)
      arriveAt p row s = ({ row with cards := cards },
        (offerBrief p (.punch row.number row.recipe (cards.map fun c =>
          ⟨c.lane, if c.reason = none then .pass else .reject, c.reason, c.summary.inhibited⟩)) s).2)) ∧
    (((s.station p).role = .form ∨ (s.station p).role = .supervisor ∨ (s.station p).role = .unassigned) →
      arriveAt p row s = (row, s))

/-- Refill orders (chapter 5 section 5.3): a condemned card has none; on any other card exactly the cavities that meet
the three conditions are ordered, each with one attempt more, the outcome and the ordering port, and their lines are in
cavity order with the number missing and the class; nothing else of the card changes. -/
def Obligations.RefillOrders : Prop :=
  ∀ (stations : PerPort Station) (p : Port) (r : Recipe) (outcome : RefillOutcome) (c : Card),
    (c.reason ≠ none → orderCard stations p r outcome c = c ∧ cardLines stations p r c = []) ∧
    (c.reason = none →
      (∀ i spec cav, CavityAt r c i spec cav →
        (WantsRefill stations p r spec cav → (orderCard stations p r outcome c).cavities[i]? = some
          { cav with attempts := cav.attempts + 1, refill := some outcome, orderedBy := some p }) ∧
        (¬ WantsRefill stations p r spec cav → (orderCard stations p r outcome c).cavities[i]? = some cav)) ∧
      { orderCard stations p r outcome c with cavities := c.cavities } = c ∧
      (cardLines stations p r c).Pairwise (fun a b => a.cavity < b.cavity) ∧
      ∀ line, line ∈ cardLines stations p r c ↔ ∃ i spec cav, CavityAt r c i spec cav ∧
        WantsRefill stations p r spec cav ∧ line = ⟨c.lane, i, spec.required - cav.count, spec.cls⟩)

/-- The judgement pass at S1: an uncondemned card that is not FROZEN gets the lowest-numbered reason found among all its
cavities, station none and offset S1, or stays without a reason; a condemned one keeps its reason; an OPEN card becomes
JUDGED and a JUDGED one stays so; no cavity changes. -/
def Obligations.JudgementLowestReason : Prop :=
  ∀ (s : State) (p : Port) (row : Row), (s.station p).role = .seal → s.sealOffset = some row.offset →
    ∀ (i : Nat) (c : Card), row.cards[i]? = some c → c.state ≠ .frozen → ∃ c',
      (arriveAt p row s).1.cards[i]? = some c' ∧ c'.state = .judged ∧ c'.cavities = c.cavities ∧
      (c.reason = none → ∀ x, Found (s.recipe row.recipe) c x →
        (∀ y, Found (s.recipe row.recipe) c y → reasonCode (some x) ≤ reasonCode (some y)) →
        c'.reason = some x ∧ c'.station = none ∧ c'.condemnOffset = some row.offset) ∧
      (c.reason = none → (∀ x, ¬ Found (s.recipe row.recipe) c x) → c'.reason = none) ∧
      ∀ x, c.reason = some x → c'.reason = some x ∧ c'.station = c.station ∧ c'.condemnOffset = c.condemnOffset

/-- The freeze at the PUNCH offset (chapter 7 section 7.2): an uncondemned card that is not FROZEN is tested for its dose,
saturation and D_max first; then every card has its verdict and is FROZEN. -/
def Obligations.FreezeVerdicts : Prop :=
  ∀ (s : State) (p : Port) (row : Row), (s.station p).role = .punch →
    let r := s.recipe row.recipe
    ∀ (i : Nat) (c : Card), row.cards[i]? = some c → c.state ≠ .frozen →
      let fixed (reason : Option Reason) (offset : Option Nat) (verdict : Verdict) : Option Card := some
        { c with
          state := .frozen
          reason := reason
          station := if c.reason = none then none else c.station
          condemnOffset := offset
          verdict := some verdict }
      ((c.reason ≠ none → (arriveAt p row s).1.cards[i]? = fixed c.reason c.condemnOffset .reject) ∧
      (c.reason = none → (c.summary.saturated = true ∨ r.dMax < c.summary.dose) →
        (arriveAt p row s).1.cards[i]? = fixed (some .sealHigh) (some row.offset) .reject) ∧
      (c.reason = none → c.summary.saturated = false → c.summary.dose ≤ r.dMax → c.summary.dose < r.dMin →
        (arriveAt p row s).1.cards[i]? = fixed (some .sealLow) (some row.offset) .reject) ∧
      (c.reason = none → c.station = none → c.summary.saturated = false → c.summary.dose ≤ r.dMax →
        r.dMin ≤ c.summary.dose → (arriveAt p row s).1.cards[i]? = fixed none c.condemnOffset .pass))

/-- Reconciliation (chapter 7 section 7.4): the outcome of each verdict and discharge, an absent discharge taken as
UNKNOWN; a discharge fault sets the latch with its record only if it was clear; a JAMMED card raises JAM on every port
and changes nothing else. -/
def Obligations.ReconciliationTable : Prop :=
  ∀ (row : Row) (c : Card) (s : State) (v : Verdict), c.verdict = some v →
    (v = .pass → c.discharge = some .goodChute → reconcile row c s = s) ∧
    (v = .reject → c.discharge = some .rejectChute → reconcile row c s = s) ∧
    (v = .pass → c.discharge = some .rejectChute → reconcile row c s = { s with goodLost := s.goodLost + 1 }) ∧
    (v = .pass → (c.discharge = none ∨ c.discharge = some .unknown) →
      reconcile row c s = { s with goodUnconfirmed := s.goodUnconfirmed + 1 }) ∧
    (v = .reject → (c.discharge = none ∨ c.discharge = some .unknown ∨ c.discharge = some .goodChute) →
      (s.fault = none → reconcile row c s
        = announce s { s with fault := some ⟨row.number, c.lane, c.discharge⟩ }) ∧
      (s.fault ≠ none → reconcile row c s = s)) ∧
    (c.discharge = some .jammed →
      reconcile row c s = raise everyPort .jam s ∧
      (∀ q, ((reconcile row c s).port q).latched = (s.port q).latched ||| 0x040) ∧
      (reconcile row c s).hold = s.hold)

/-- Retirement (chapter 1 section 1.3, chapter 8 sections 8.1 and 8.2): the cards are taken in lane order, each
reconciled and then offered with its record; an offer that finds room is appended, one that finds the queue full is
dropped, counted and raised on every port with TRACE, with the ATTENTIONs that causes, and nothing else changes; then
the use count falls by one. That a card without a verdict is recorded as REJECT and that a use count of 0 stays 0, which
no run meets, is the model's choice (log entry 19). -/
def Obligations.RetirementOffersRecords : Prop :=
  (∀ (s : State) (id : RecipeId) (n : Nat),
    s.setUseCount id n = { s with useCounts := (s.setUseCount id n).useCounts } ∧
    ∀ j, (s.setUseCount id n).useCount j = if j = id then n else s.useCount j) ∧
  (∀ (row : Row) (s : State), ∃ t, t = row.cards.foldl (fun s c => offerRecord
      { row := row.number, lane := c.lane, recipe := row.recipe, customer := (s.recipe row.recipe).customer,
        verdict := c.verdict.getD .reject, reason := c.reason, station := c.station, discharge := c.discharge,
        formed := row.formed, retired := s.timeTag, summary := c.summary, counts := c.cavities.map (·.count),
        attempts := c.cavities.map (·.attempts) } (reconcile row c s)) s ∧
    retireRow row s = t.setUseCount row.recipe (t.useCount row.recipe - 1)) ∧
  ∀ (rec : RetireRecord) (s : State),
    (s.trace.length < 256 → offerRecord rec s = announce s { s with trace := s.trace ++ [rec] }) ∧
    (256 ≤ s.trace.length →
      offerRecord rec s
        = raise (fun p => (s.station p).perms.trace) .traceOverrun { s with cardsDropped := s.cardsDropped + 1 } ∧
      ∀ q, ((offerRecord rec s).port q).latched
        = if (s.station q).perms.trace then (s.port q).latched ||| 0x008 else (s.port q).latched)

/-- In DRAIN the advance that retires the last row, its work complete, sets IDLE and raises LINE_STATE on every port,
forming no row and keeping E and S1; in RUN an advance never leaves the map empty; and E and S1 are changed only by master
reset, PURGE and a START that takes the line to RUN. -/
def Obligations.DrainEndSetsIdle : Prop :=
  (∀ s : State, s.resetHeld = false → 0 < s.advancesDue → s.line = .drain → s.rows ≠ [] →
    (∀ r ∈ s.rows, s.exitOffset = some (r.offset + 1)) →
    ∃ t taken, exec .advance s = .next t ∧
      taken = (s.rows.map moved).foldl takeRow { s with
        rows := [], advancesDue := s.advancesDue - 1, indexCount := s.indexCount + 1 } ∧
      t = raise everyPort .lineState { taken with line := .idle } ∧ t.line = .idle ∧ t.rows = [] ∧
      t.cardsFormed = s.cardsFormed ∧ t.exitOffset = s.exitOffset ∧ t.sealOffset = s.sealOffset ∧
      ∀ q, (t.port q).latched &&& 0x010 ≠ 0) ∧
  (∀ s t : State, s.resetHeld = false → 0 < s.advancesDue → s.line = .run → exec .advance s = .next t → t.rows ≠ []) ∧
  ∀ (c : Instr) (s t : State), c ≠ .masterReset → (∀ p tag, c ≠ .purge p tag) → exec c s = .next t →
    (t.exitOffset = s.exitOffset ∧ t.sealOffset = s.sealOffset) ∨
      ∃ p tag, c = .start p tag ∧ s.line ≠ .run ∧ t.line = .run

/-- Each change of the line state, and each PURGE applied, raises LINE_STATE on every port; a START in RUN or refused, and
a STOP_FORMING in IDLE or DRAIN, leave it and raise nothing. Master reset, which sets every latched event absent, is no
such change. -/
def Obligations.LineChangesRaiseLineState : Prop :=
  (∀ (c : Instr) (s t : State), exec c s = .next t → c ≠ .masterReset → t.line ≠ s.line →
    ∀ q, (t.port q).latched &&& 0x010 ≠ 0) ∧
  (∀ (p : Port) (tag : Octet) (s : State), InService ⟨p, tag, .purge⟩ s → (s.station p).perms.operate = true →
    ∃ t, exec (.purge p tag) s = .next t ∧ ∀ q, (t.port q).latched = (s.port q).latched ||| 0x010) ∧
  (∀ (p : Port) (tag : Octet) (s : State), InService ⟨p, tag, .start⟩ s →
    (s.line = .run ∨ ∃ check ∈ startChecks s, check = false) →
    ∃ t, exec (.start p tag) s = .next t ∧ t.line = s.line ∧ ∀ q, (t.port q).latched = (s.port q).latched) ∧
  ∀ (p : Port) (tag : Octet) (s : State), InService ⟨p, tag, .stopForming⟩ s → s.line ≠ .run →
    ∃ t, exec (.stopForming p tag) s = .next t ∧ t.line = s.line ∧ ∀ q, (t.port q).latched = (s.port q).latched

/-! ### Reports -/

/-- The admission of a report, checks 1 to 4 in order (chapter 2 section 2.2): FORBIDDEN for a kind the role may not
send, OFFLINE, UNKNOWN_ROW, EARLY and LATE with the row's offset. A row is found by equality of the whole row number
(chapter 1 section 1.4), and a card of it by its lane. -/
def Obligations.ReportAdmissionChecks : Prop :=
  (∀ (s : State) (number : Word),
    (s.findRow number = none ↔ ∀ row ∈ s.rows, row.number ≠ number) ∧
    ∀ row, s.findRow number = some row → row ∈ s.rows ∧ row.number = number) ∧
  (∀ (row : Row) (l : Fin 4),
    (row.card l = none ↔ ∀ c ∈ row.cards, c.lane ≠ l) ∧ ∀ c, row.card l = some c → c ∈ row.cards ∧ c.lane = l) ∧
  ∀ (c : Instr) (r : Request) (s : State) (number : Word) (lane : Octet), requestOf c = some r → InService r s →
    reportTarget r.body = some (number, lane) →
    let e := s.station r.port
    (mayReport e.role r.body = false → exec c s = .next (refused r .forbidden 0 s)) ∧
    (mayReport e.role r.body = true →
      (e.mode = .offline → exec c s = .next (refused r .offline 0 s)) ∧
      (e.mode = .active →
        (s.findRow number = none → exec c s = .next (refused r .unknownRow 0 s)) ∧
        ∀ row, s.findRow number = some row →
          (row.offset < e.offset → exec c s = .next (refused r .early row.offset s)) ∧
          (e.offset ≤ row.offset → e.offset + e.window ≤ row.offset →
            exec c s = .next (refused r .late row.offset s))))

/-- The validation of a report's kind, in order (chapter 4 sections 4.1 to 4.6): the lane, the list's length, the cavity
indices, the values, and the strike limit. -/
def Obligations.ReportContentRefusals : Prop :=
  (∀ (c : Instr) (r : Request) (s : State) (number : Word) (lane : Octet) (row : Row), requestOf c = some r →
    InService r s → reportTarget r.body = some (number, lane) → mayReport (s.station r.port).role r.body = true →
    (s.station r.port).mode = .active → s.findRow number = some row → (s.station r.port).offset ≤ row.offset →
    row.offset < (s.station r.port).offset + (s.station r.port).window →
    (3 < lane.toNat ∨ row.laneMask.getLsbD lane.toNat = false) → exec c s = .next (refused r .malformed 0 s)) ∧
  ∀ (p : Port) (tag : Octet) (s : State) (row : Row) (number : Word) (lane : Octet) (l : Fin 4) (card : Card),
    let k := (s.recipe row.recipe).cavities.length
    (∀ splice outcomes, let r : Request := ⟨p, tag, .formResult number lane splice outcomes⟩
      InService r s → Admits r s row l card →
      (outcomes.length ≠ k → exec (.formResult p tag number lane splice outcomes) s = .next (refused r .malformed 0 s)) ∧
      (outcomes.length = k → (1 < splice.toNat ∨ ∃ o ∈ outcomes, o.toNat = 0 ∨ 3 < o.toNat) →
        exec (.formResult p tag number lane splice outcomes) s = .next (refused r .badValue 0 s))) ∧
    (∀ pairs, let r : Request := ⟨p, tag, .placement number lane pairs⟩
      InService r s → Admits r s row l card →
      (pairs = [] ∨ 12 < pairs.length ∨ (∃ e ∈ pairs, k ≤ e.cavity.toNat) ∨ ¬ (pairs.map (·.cavity)).Nodup) →
      exec (.placement p tag number lane pairs) s = .next (refused r .malformed 0 s)) ∧
    (∀ entries, let r : Request := ⟨p, tag, .inspection number lane entries⟩
      InService r s → Admits r s row l card →
      ((entries = [] ∨ 12 < entries.length ∨ (∃ e ∈ entries, k ≤ e.cavity.toNat) ∨
          ¬ (entries.map (·.cavity)).Nodup) →
        exec (.inspection p tag number lane entries) s = .next (refused r .malformed 0 s)) ∧
      (entries ≠ [] → entries.length ≤ 12 → (∀ e ∈ entries, e.cavity.toNat < k) → (entries.map (·.cavity)).Nodup →
        (∃ e ∈ entries, 63 < e.classSeen.toNat ∨ 2 < e.orientation.toNat) →
        exec (.inspection p tag number lane entries) s = .next (refused r .badValue 0 s))) ∧
    (∀ sealed t w q, let r : Request := ⟨p, tag, .sealHit number lane sealed t w q⟩
      InService r s → Admits r s row l card →
      (1 < sealed.toNat → exec (.sealHit p tag number lane sealed t w q) s = .next (refused r .badValue 0 s)) ∧
      (sealed.toNat ≤ 1 → 4 ≤ card.tallies.get p →
        exec (.sealHit p tag number lane sealed t w q) s = .next (refused r .malformed 0 s))) ∧
    ∀ outcome, let r : Request := ⟨p, tag, .discharge number lane outcome⟩
      InService r s → Admits r s row l card → (outcome.toNat = 0 ∨ 3 < outcome.toNat) →
      exec (.discharge p tag number lane outcome) s = .next (refused r .badValue 0 s)

/-- Each of the five reports, admitted and valid, is applied whole to the card it names, after its port has joined that
card's reported set, and is not answered; no other card, row or field changes (chapter 4). A form outcome is read from
the octet that carries its code in PayloadLayouts, and from no other. -/
def Obligations.ReportsApplied : Prop :=
  (∀ (o : Octet) (x : FormOutcome), formOutcomeOf o = some x ↔ o.toNat = formCode (some x)) ∧
  ∀ (p : Port) (tag : Octet) (s : State) (row : Row) (number : Word) (lane : Octet) (l : Fin 4) (card : Card),
    let k := (s.recipe row.recipe).cavities.length
    let join : Card → Card := fun c => { c with reported := c.reported.set p true }
    let after (f : Card → Card) : State := { s with rows := s.rows.map fun x =>
      if x.number = row.number then { x with cards := x.cards.map fun c => if c.lane = l then f (join c) else c } else x }
    (∀ splice outcomes decoded, let r : Request := ⟨p, tag, .formResult number lane splice outcomes⟩
      InService r s → Admits r s row l card → splice.toNat ≤ 1 → outcomes.length = k →
      outcomes.map formOutcomeOf = decoded.map some →
      exec (.formResult p tag number lane splice outcomes) s
        = .next (finished r .nothing s (after (applyForm p row.offset (splice == 1) decoded)))) ∧
    (∀ pairs, let r : Request := ⟨p, tag, .placement number lane pairs⟩
      InService r s → Admits r s row l card → pairs ≠ [] → pairs.length ≤ 12 → (∀ e ∈ pairs, e.cavity.toNat < k) →
      (pairs.map (·.cavity)).Nodup →
      exec (.placement p tag number lane pairs) s
        = .next (finished r .nothing s (after (applyPlacement s.stations p pairs)))) ∧
    (∀ entries, let r : Request := ⟨p, tag, .inspection number lane entries⟩
      InService r s → Admits r s row l card → entries ≠ [] → entries.length ≤ 12 →
      (∀ e ∈ entries, e.cavity.toNat < k) → (entries.map (·.cavity)).Nodup →
      (∀ e ∈ entries, e.classSeen.toNat ≤ 63 ∧ e.orientation.toNat ≤ 2) →
      exec (.inspection p tag number lane entries) s
        = .next (finished r .nothing s
          (after (applyInspection s.stations p row.offset (s.recipe row.recipe) entries)))) ∧
    (∀ sealed t w q, let r : Request := ⟨p, tag, .sealHit number lane sealed t w q⟩
      InService r s → Admits r s row l card → sealed.toNat ≤ 1 → card.tallies.get p < 4 →
      exec (.sealHit p tag number lane sealed t w q) s
        = .next (finished r .nothing s (after (applySealHit p row.offset (s.recipe row.recipe) (sealed == 1)
          t.toNat w.toNat q.toNat)))) ∧
    ∀ outcome d, let r : Request := ⟨p, tag, .discharge number lane outcome⟩
      InService r s → Admits r s row l card →
      (outcome = 1 ∧ d = .goodChute ∨ outcome = 2 ∧ d = .rejectChute ∨ outcome = 3 ∧ d = .jammed) →
      exec (.discharge p tag number lane outcome) s
        = .next (finished r .nothing s (after fun c => { c with discharge := some d }))

/-- An accepted FORM_RESULT on its card (chapter 4 section 4.2): every outcome is set by position, and the card is
condemned SPLICE, else FORM_FAULT for an outcome that is not GOOD, else not at all; nothing else changes. -/
def Obligations.FormResultOnCard : Prop :=
  ∀ (p : Port) (o : Nat) (splice : Bool) (outcomes : List FormOutcome) (c : Card), outcomes.length = c.cavities.length →
    let set := { c with cavities := (c.cavities.zip outcomes).map fun x => { x.1 with form := some x.2 } }
    (splice = true → applyForm p o splice outcomes c = set.condemn .splice (some p) o) ∧
    (splice = false → (∃ x ∈ outcomes, x ≠ .good) →
      applyForm p o splice outcomes c = set.condemn .formFault (some p) o) ∧
    (splice = false → (∀ x ∈ outcomes, x = .good) → applyForm p o splice outcomes c = set)

/-- An accepted PLACEMENT on its card (chapter 4 section 4.3): a cavity it names takes the station's entry, replaced in
its place or added at the end with the count clamped to 15, its effective count is recomputed, and an order of this port
becomes PLACED; any other cavity and every other field stay. -/
def Obligations.PlacementOnCavity : Prop :=
  ∀ (stations : PerPort Station) (p : Port) (pairs : List PlacePair) (c : Card), (pairs.map (·.cavity)).Nodup →
    { applyPlacement stations p pairs c with cavities := c.cavities } = c ∧
    (applyPlacement stations p pairs c).cavities.length = c.cavities.length ∧
    ∀ i cav, c.cavities[i]? = some cav →
      ((∀ e ∈ pairs, e.cavity.toNat ≠ i) → (applyPlacement stations p pairs c).cavities[i]? = some cav) ∧
      ∀ e ∈ pairs, e.cavity.toNat = i → ∀ written,
        ((∀ x ∈ cav.placements, x.station ≠ p) → written = cav.placements ++ [⟨p, min 15 e.count.toNat⟩]) →
        ((∃ x ∈ cav.placements, x.station = p) → written = cav.placements.map fun x =>
          if x.station = p then ⟨p, min 15 e.count.toNat⟩ else x) →
        (applyPlacement stations p pairs c).cavities[i]? = some { cav with
          placements := written
          count := effectiveCount stations cav.inspection written
          refill := if cav.refill = some .ordered ∧ cav.orderedBy = some p then some .placed else cav.refill }

/-- An accepted INSPECTION on its card (chapter 4 section 4.4): an entry whose cavity holds a record of a station of
greater offset is ignored; any other replaces the record and the effective count is recomputed; the first fault in
cavity order, and within a cavity the first of WRONG_ITEM, ORIENTATION and OVER_COUNT, condemns the card; the order in
which the camera listed the entries changes nothing. An orientation is read from the octet that carries its code in
PayloadLayouts, and from no other. -/
def Obligations.InspectionOnCard : Prop :=
  (∀ (o : Octet) (x : Orientation), orientationOf o = some x ↔ o.toNat = orientationCode x) ∧
  ∀ (stations : PerPort Station) (p : Port) (o : Nat) (r : Recipe) (entries : List InspectEntry) (c : Card),
    (entries.map (·.cavity)).Nodup → (∀ e ∈ entries, e.orientation.toNat ≤ 2) →
    r.cavities.length = c.cavities.length →
    let higher (cav : Cavity) : Prop :=
      ∃ i, cav.inspection = some i ∧ (stations.get p).offset < (stations.get i.station).offset
    let recorded (e : InspectEntry) (orientation : Orientation) (cav : Cavity) : Cavity :=
      { cav with
        inspection := some ⟨p, e.classSeen.toNat, min 15 e.count.toNat, orientation⟩
        count := effectiveCount stations (some ⟨p, e.classSeen.toNat, min 15 e.count.toNat, orientation⟩)
          cav.placements }
    let fault (i : Nat) (x : Reason) : Prop :=
      ∃ spec cav e orientation, CavityAt r c i spec cav ∧ e ∈ entries ∧ e.cavity.toNat = i ∧ ¬ higher cav ∧
        orientationOf e.orientation = some orientation ∧
        (e.classSeen.toNat ≠ 0 ∧ e.classSeen.toNat ≠ spec.cls ∧ x = .wrongItem ∨
          (e.classSeen.toNat = 0 ∨ e.classSeen.toNat = spec.cls) ∧
            (spec.orient = true ∧ e.classSeen.toNat ≠ 0 ∧ orientation ≠ .ok ∧ x = .orientation ∨
              ¬ (spec.orient = true ∧ e.classSeen.toNat ≠ 0 ∧ orientation ≠ .ok) ∧
                spec.required + spec.overTol < (recorded e orientation cav).count ∧ x = .overCount))
    (∀ listed, listed.Perm entries → applyInspection stations p o r listed c = applyInspection stations p o r entries c) ∧
    (∀ i spec cav, CavityAt r c i spec cav →
      ((∀ e ∈ entries, e.cavity.toNat ≠ i) → (applyInspection stations p o r entries c).cavities[i]? = some cav) ∧
      (higher cav → (applyInspection stations p o r entries c).cavities[i]? = some cav) ∧
      ∀ e ∈ entries, ∀ orientation, e.cavity.toNat = i → orientationOf e.orientation = some orientation → ¬ higher cav →
        (applyInspection stations p o r entries c).cavities[i]? = some (recorded e orientation cav)) ∧
    (∀ i x, fault i x → (∀ j y, fault j y → i ≤ j) →
      { applyInspection stations p o r entries c with cavities := c.cavities } = c.condemn x (some p) o) ∧
    ((∀ i x, ¬ fault i x) → { applyInspection stations p o r entries c with cavities := c.cavities } = c)

/-- An accepted SEAL_HIT on its card (chapter 6 section 6.2): one strike more in the station's tally, the clamped flag,
and for a sealed hit one hit more, the minimum pressure, the pressure check against p_min and the dose of the clamped
values; an unsealed strike changes only the tally and the clamped flag. -/
def Obligations.SealHitOnCard : Prop :=
  ∀ (p : Port) (o : Nat) (r : Recipe) (temperature dwell pressure : Nat) (c : Card),
    let t := min 3000 temperature
    let w := min 5000 dwell
    let q := min 1000 pressure
    let flag := c.summary.clamped || decide (3000 < temperature ∨ 5000 < dwell ∨ 1000 < pressure)
    let tallied := { c with tallies := c.tallies.set p (c.tallies.get p + 1) }
    applySealHit p o r false temperature dwell pressure c
      = { tallied with summary := { c.summary with clamped := flag } } ∧
    (let sum := c.summary.dose + (t - r.tAct) * w / 1000
     let struck := { tallied with summary :=
      { hits := c.summary.hits + 1
        dose := if sum ≤ 65535 then sum else 65535
        saturated := if sum ≤ 65535 then c.summary.saturated else true
        clamped := flag
        minPressure := match c.summary.minPressure with
          | some m => some (min m q)
          | none => some q
        inhibited := c.summary.inhibited } }
     (r.pMin ≤ q → applySealHit p o r true temperature dwell pressure c = struck) ∧
     (q < r.pMin → applySealHit p o r true temperature dwell pressure c = struck.condemn .sealPressure (some p) o))

/-- The dose of one sealed hit: the excess temperature, 0 at or below T_act, times the dwell, divided by 1000 with the
fraction discarded, from 0 to 15000, each hit on its own; a hit at or below T_act adds 0 and still counts in the hits and
the minimum pressure and is still checked. -/
def Obligations.HitDose : Prop :=
  (∀ tAct t w : Nat, t ≤ tAct → hitDose tAct t w = 0) ∧
  (∀ tAct t w : Nat, tAct < t → 1000 * hitDose tAct t w ≤ (t - tAct) * w ∧
    (t - tAct) * w < 1000 * (hitDose tAct t w + 1)) ∧
  (∀ tAct t w : Nat, t ≤ 3000 → w ≤ 5000 → hitDose tAct t w ≤ 15000) ∧ hitDose 0 3000 5000 = 15000 ∧
  (∀ t w : Nat, t ≤ 3000 → hitDose 3000 t w = 0) ∧
  (∀ (p : Port) (o : Nat) (r : Recipe) (temperature dwell pressure : Nat) (c : Card),
    (applySealHit p o r true temperature dwell pressure c).summary.dose
      = (c.summary.addDose (hitDose r.tAct (min 3000 temperature) (min 5000 dwell))).dose) ∧
  ∀ (p : Port) (o : Nat) (r : Recipe) (temperature dwell pressure : Nat) (c : Card), min 3000 temperature ≤ r.tAct →
    c.summary.dose ≤ 65535 →
    (applySealHit p o r true temperature dwell pressure c).summary.dose = c.summary.dose ∧
    (applySealHit p o r true temperature dwell pressure c).summary.saturated = c.summary.saturated ∧
    (applySealHit p o r true temperature dwell pressure c).summary.hits = c.summary.hits + 1 ∧
    (∃ m, (applySealHit p o r true temperature dwell pressure c).summary.minPressure = some m ∧
      m ≤ min 1000 pressure) ∧
    (min 1000 pressure < r.pMin → c.reason = none → c.state ≠ .frozen →
      (applySealHit p o r true temperature dwell pressure c).reason = some .sealPressure)

/-- The dose accumulator: it takes the sum up to 65535, else 65535 with the saturated flag set; over all the hits of a
card it is the lesser of 65535 and the sum of their doses, and the flag says exactly that the sum has exceeded 65535;
once saturated both stay; the freeze condemns a saturated card SEAL_HIGH whatever D_max is. -/
def Obligations.DoseAccumulator : Prop :=
  (∀ (s : Seal) (dose : Nat),
    (s.dose + dose ≤ 65535 → s.addDose dose = { s with dose := s.dose + dose }) ∧
    (65535 < s.dose + dose → s.addDose dose = { s with dose := 65535, saturated := true }) ∧
    (s.dose = 65535 → s.saturated = true → s.addDose dose = s) ∧
    (s.dose ≤ 65535 → (s.addDose dose).dose ≤ 65535 ∧ s.dose ≤ (s.addDose dose).dose)) ∧
  (∀ (s : Seal) (doses : List Nat), s.dose = 0 → s.saturated = false →
    (doses.foldl Seal.addDose s).dose = min 65535 doses.sum ∧
    ((doses.foldl Seal.addDose s).saturated = true ↔ 65535 < doses.sum)) ∧
  ∀ (r : Recipe) (o : Nat) (c : Card), c.summary.saturated = true → c.reason = none → c.state ≠ .frozen →
    (freezeCard r o c).reason = some .sealHigh

/-- The effective count (chapter 5 section 5.1): the governing record's count and the placements downstream of it, or all
placements where there is no record, limited to 15; it does not depend on the order of the list, nor on whether a
placement or an inspection that is not superseded is applied first. -/
def Obligations.EffectiveCountLaw : Prop :=
  (∀ (stations : PerPort Station) (l : List Placement),
    effectiveCount stations none l = min 15 (l.map (·.count)).sum ∧
    ∀ i : Inspection, effectiveCount stations (some i) l = min 15 (i.count + (l.map fun e =>
      if (stations.get i.station).offset < (stations.get e.station).offset then e.count else 0).sum)) ∧
  (∀ (stations : PerPort Station) (i : Option Inspection) (l m : List Placement), l.Perm m →
    effectiveCount stations i l = effectiveCount stations i m) ∧
  ∀ (stations : PerPort Station) (p q : Port) (n : Nat) (spec : CavitySpec) (e : InspectEntry) (c : Cavity),
    superseded stations q c = false →
    (inspectInto stations q spec e (placeInto stations p n c)).1
      = placeInto stations p n (inspectInto stations q spec e c).1

/-! ### Commands -/

/-- START (chapter 1 section 1.1): in RUN nothing changes; in IDLE and DRAIN the first failing check refuses it with its
number; when all pass, E and S1 are fixed, the line is in RUN and LINE_STATE is raised on every port. -/
def Obligations.StartOutcomes : Prop :=
  ∀ (p : Port) (tag : Octet) (s : State), let r : Request := ⟨p, tag, .start⟩
    InService r s → (s.station p).perms.operate = true →
    (s.line = .run → exec (.start p tag) s
      = .next (finished r (.response (.start .run s.exitOffset s.sealOffset)) s s)) ∧
    (s.line ≠ .run → ∀ n, (∀ m < n, (startChecks s)[m]? = some true) → (startChecks s)[n]? = some false →
      exec (.start p tag) s = .next (refused r .configInvalid (n + 1) s)) ∧
    (s.line ≠ .run → (∀ check ∈ startChecks s, check = true) → ∀ punch lowest,
      (s.station punch).role = .punch → (s.station lowest).role = .seal →
      (∀ q, (s.station q).role = .seal → (s.station lowest).offset ≤ (s.station q).offset) →
      let e := (s.station punch).offset + (s.station punch).window
      let s1 := (s.station lowest).offset
      exec (.start p tag) s = .next (finished r (.response (.start .run (some e) (some s1))) s
        (latchOn everyPort .lineState { s with line := .run, exitOffset := some e, sealOffset := some s1 })))

/-- The nine checks of START, in order, each in the terms of its row of the table (chapter 1 section 1.1), and the E and
S1 that they leave to be fixed. -/
def Obligations.StartChecksMean : Prop :=
  (∀ role : Role, role.onLine = true ↔ role ≠ .unassigned ∧ role ≠ .supervisor) ∧
  ∀ s : State,
    let role := fun p => (s.station p).role
    let offset := fun p => (s.station p).offset
    let close := fun p => (s.station p).offset + (s.station p).window
    startChecks s = [startCheck1 s, startCheck2 s, startCheck3 s, startCheck4 s, startCheck5 s, startCheck6 s, startCheck7 s,
      startCheck8 s, startCheck9 s] ∧
    (∀ p, role p = .punch → (∀ q, role q = .punch → q = p) → startExit s = some (close p)) ∧
    (∀ p, role p = .seal → (∀ q, role q = .seal → offset p ≤ offset q) → lowestSeal s = some (offset p)) ∧
    (startCheck1 s = true ↔ ∃ p, role p = .form ∧ (∀ q, role q = .form → q = p) ∧ offset p = 0) ∧
    (startCheck2 s = true ↔ ∃ p, role p = .punch ∧ (∀ q, role q = .punch → q = p) ∧ close p ≤ 63) ∧
    (startCheck3 s = true ↔ ∃ p q, role p = .seal ∧ role q = .seal ∧ ∀ x, role x = .seal → x = p ∨ x = q) ∧
    (startCheck4 s = true ↔ ∀ p q, p ≠ q → (role p).onLine = true → (role q).onLine = true → offset p ≠ offset q) ∧
    (startCheck3 s = true → (startCheck5 s = true ↔ ∀ p q,
      (role p = .form ∨ role p = .feed ∨ role p = .inspect ∨ role p = .topup) → role q = .seal → close p ≤ offset q)) ∧
    (startCheck6 s = true ↔ ∀ p q, role p = .seal → role q = .punch → close p ≤ offset q) ∧
    (startCheck7 s = true ↔ Port.all.countP (fun p => role p = .feed ∨ role p = .topup) ≤ 4 ∧
      Port.all.countP (fun p => role p = .inspect) ≤ 3 ∧ Port.all.countP (fun p => role p = .topup) ≤ 2) ∧
    (startCheck8 s = true ↔ ∃ id, s.selected = some id ∧ (s.recipe id).valid = true ∧
      (∀ c ∈ (s.recipe id).cavities, ∀ q, c.feeder = some q → role q = .feed) ∧
      ((∃ c ∈ (s.recipe id).cavities, c.verify = true) → ∃ q, role q = .inspect)) ∧
    (startCheck4 s = true → (startCheck9 s = true ↔ ∀ p, role p = .topup → ∃ q, role q = .inspect ∧
      (∀ x, role x = .inspect → offset q ≤ offset x) ∧ close q < offset p))

/-- STOP_FORMING, SELECT_RECIPE and RELEASE_HOLD (chapter 1 section 1.1, chapter 7 section 7.4). -/
def Obligations.LineCommands : Prop :=
  ∀ (p : Port) (tag : Octet) (s : State), (s.station p).perms.operate = true →
    (let r : Request := ⟨p, tag, .stopForming⟩
     InService r s →
      (s.line = .run → s.rows ≠ [] → exec (.stopForming p tag) s = .next (finished r (.response (.stopForming .drain)) s
        (latchOn everyPort .lineState { s with line := .drain }))) ∧
      (s.line = .run → s.rows = [] → exec (.stopForming p tag) s = .next (finished r (.response (.stopForming .idle)) s
        (latchOn everyPort .lineState { s with line := .idle }))) ∧
      (s.line ≠ .run → exec (.stopForming p tag) s
        = .next (finished r (.response (.stopForming s.line)) s s))) ∧
    (∀ o : Octet, let r : Request := ⟨p, tag, .selectRecipe o⟩
     InService r s →
      (15 < o.toNat → exec (.selectRecipe p tag o) s = .next (refused r .badValue 0 s)) ∧
      ∀ id : RecipeId, o.toNat = id.val →
        ((s.recipe id).valid = false → exec (.selectRecipe p tag o) s = .next (refused r .recipeInvalid 0 s)) ∧
        ((s.recipe id).valid = true → exec (.selectRecipe p tag o) s
          = .next (finished r (.response (.selectRecipe id)) s { s with selected := some id }))) ∧
    (let r : Request := ⟨p, tag, .releaseHold⟩
     InService r s → exec (.releaseHold p tag) s
      = .next (finished r (.response (.releaseHold s.fault)) s { s with fault := none }))

/-- PURGE (chapter 1 section 1.1): the map is emptied in any line state, CARDS_PURGED grows by its cards, every use count
is 0, E and S1 are absent, the line is IDLE and LINE_STATE is raised on every port; everything else is kept. -/
def Obligations.PurgeEmptiesMap : Prop :=
  ∀ (p : Port) (tag : Octet) (s : State), let r : Request := ⟨p, tag, .purge⟩
    InService r s → (s.station p).perms.operate = true →
    let cards := (s.rows.map fun row => row.cards.length).sum
    exec (.purge p tag) s = .next (finished r (.response (.purge s.rows.length cards)) s
      (latchOn everyPort .lineState { s with
        line := .idle
        rows := []
        cardsPurged := s.cardsPurged + BitVec.ofNat 32 cards
        useCounts := Vector.replicate 16 0
        exitOffset := none
        sealOffset := none }))

/-- CONDEMN (chapter 7 section 7.3): its refusals, and the range of row numbers modulo 2 to the power 32, each card of
the meeting lanes condemned OPERATOR with no station and its row's offset if it is neither FROZEN nor condemned, with the
three counts of the RESPONSE. -/
def Obligations.CondemnRange : Prop :=
  ∀ (p : Port) (tag : Octet) (first : Word) (count mask : Octet) (s : State),
    let r : Request := ⟨p, tag, .condemn first count mask⟩
    InService r s → (s.station p).perms.operate = true →
    ((count.toNat = 0 ∨ 64 < count.toNat) → exec (.condemn p tag first count mask) s = .next (refused r .badValue 0 s)) ∧
    (1 ≤ count.toNat → count.toNat ≤ 64 → (mask.toNat = 0 ∨ 15 < mask.toNat) →
      exec (.condemn p tag first count mask) s = .next (refused r .badValue 0 s)) ∧
    (1 ≤ count.toNat → count.toNat ≤ 64 → 1 ≤ mask.toNat → mask.toNat ≤ 15 →
      let inRange := fun row : Row => decide ((row.number - first).toNat < count.toNat)
      let taken := fun (row : Row) (c : Card) => mask.getLsbD c.lane.val && row.laneMask.getLsbD c.lane.val
      let free := fun c : Card => decide (c.state ≠ .frozen ∧ c.reason = none)
      exec (.condemn p tag first count mask) s = .next (finished r
        (.response (.condemn (s.rows.countP inRange)
          ((s.rows.filter inRange).map fun row => row.cards.countP fun c => taken row c && free c).sum
          ((s.rows.filter inRange).map fun row => row.cards.countP fun c => taken row c && !free c).sum)) s
        { s with rows := s.rows.map fun row => if inRange row then
          { row with cards := row.cards.map fun c => if taken row c && free c then
            { c with reason := some .operator, station := none, condemnOffset := some row.offset } else c } else row }))

/-- STATION_MODE_SET and STATION_WRITE (chapter 2 section 2.1): their refusals, the mode written in every line state,
the entry written whole only in IDLE, with its window clamped; no other entry and nothing else is written. A role and a mode are read from the octets that
PayloadLayouts gives them, and from no other. -/
def Obligations.StationTableWrites : Prop :=
  (∀ (s : State) (q : Port) (e : Station),
    s.setStation q e = { s with stations := (s.setStation q e).stations } ∧
    ∀ x, (s.setStation q e).station x = if x = q then e else s.station x) ∧
  (∀ (o : Octet), (∀ role, roleOf o = some role ↔ o = roleOctet role) ∧ ∀ mode, modeOf o = some mode ↔ o = modeOctet mode) ∧
  (∀ (p : Port) (tag target mode : Octet) (s : State), let r : Request := ⟨p, tag, .stationModeSet target mode⟩
    InService r s → (target.toNat = portNat p ∨ (s.station p).perms.operate = true) →
    (7 < target.toNat → exec (.stationModeSet p tag target mode) s = .next (refused r .badValue 0 s)) ∧
    (1 < mode.toNat → exec (.stationModeSet p tag target mode) s = .next (refused r .badValue 0 s)) ∧
    ∀ q m, target.toNat = portNat q → (mode = 0 ∧ m = .offline ∨ mode = 1 ∧ m = .active) →
      exec (.stationModeSet p tag target mode) s = .next (finished r (.response (.stationModeSet q m)) s
        (s.setStation q { s.station q with mode := m }))) ∧
  ∀ (p : Port) (tag target : Octet) (a : StationArg) (s : State), let r : Request := ⟨p, tag, .stationWrite target a⟩
    InService r s → (s.station p).perms.config = true →
    (s.line ≠ .idle → exec (.stationWrite p tag target a) s = .next (refused r .lineActive 0 s)) ∧
    (s.line = .idle → (7 < target.toNat ∨ 7 < a.role.toNat ∨ 62 < a.offset.toNat ∨ 1 < a.required.toNat ∨
        1 < a.mode.toNat ∨ 7 < a.perms.toNat) →
      exec (.stationWrite p tag target a) s = .next (refused r .badValue 0 s)) ∧
    (∀ q role mode, s.line = .idle → target.toNat = portNat q → roleOf a.role = some role → modeOf a.mode = some mode →
      a.offset.toNat ≤ 62 → a.required.toNat ≤ 1 → a.perms.toNat ≤ 7 →
      let e : Station := ⟨role, a.offset.toNat, max 1 (min 8 a.window.toNat), a.required == 1, mode,
        ⟨a.perms.getLsbD 0, a.perms.getLsbD 1, a.perms.getLsbD 2⟩⟩
      exec (.stationWrite p tag target a) s = .next (finished r (.response (.stationWrite q e)) s (s.setStation q e)))

/-- RECIPE_WRITE (chapter 3 section 3.2): the cases that refuse it, in order, and the entry replaced whole with its
clamps, its use count 0; no other entry and nothing else is written. -/
def Obligations.RecipeWriteOutcomes : Prop :=
  (∀ (s : State) (id : RecipeId) (r : Recipe),
    s.setRecipe id r = { s with recipes := (s.setRecipe id r).recipes } ∧
    ∀ j, (s.setRecipe id r).recipe j = if j = id then r else s.recipe j) ∧
  ∀ (p : Port) (tag o : Octet) (a : RecipeArg) (s : State), let r : Request := ⟨p, tag, .recipeWrite o a⟩
    InService r s → (s.station p).perms.config = true →
    (15 < o.toNat → exec (.recipeWrite p tag o a) s = .next (refused r .badValue 0 s)) ∧
    ∀ id : RecipeId, o.toNat = id.val →
      ((s.useCount id ≠ 0 ∨ s.selected = some id ∧ s.line = .run) →
        exec (.recipeWrite p tag o a) s = .next (refused r .inUse 0 s)) ∧
      (s.useCount id = 0 → (s.selected ≠ some id ∨ s.line ≠ .run) →
        ((a.cavityCount.toNat = 0 ∨ 12 < a.cavityCount.toNat) →
          exec (.recipeWrite p tag o a) s = .next (refused r .badValue 0 s)) ∧
        (1 ≤ a.cavityCount.toNat → a.cavityCount.toNat ≤ 12 →
          (a.cavities.length ≠ a.cavityCount.toNat →
            exec (.recipeWrite p tag o a) s = .next (refused r .malformed 0 s)) ∧
          (a.cavities.length = a.cavityCount.toNat →
            let bad := a.laneMask.toNat = 0 ∨ 15 < a.laneMask.toNat ∨ a.dMax.toNat < a.dMin.toNat ∨
              1 < a.valid.toNat ∨ 1 < a.recover.toNat ∨ ∃ c ∈ a.cavities, c.cls.toNat = 0 ∨ 63 < c.cls.toNat ∨
                c.required.toNat = 0 ∨ 15 < c.required.toNat ∨ 1 < c.verify.toNat ∨ 1 < c.orient.toNat
            (bad → exec (.recipeWrite p tag o a) s = .next (refused r .badValue 0 s)) ∧
            (¬ bad →
              let stored : Recipe :=
                { valid := a.valid == 1, customer := a.customer, laneMask := BitVec.ofNat 4 a.laneMask.toNat,
                  recover := a.recover == 1, refillLimit := min 2 a.refillLimit.toNat, tAct := min 3000 a.tAct.toNat,
                  dMin := a.dMin.toNat, dMax := a.dMax.toNat, pMin := min 1000 a.pMin.toNat,
                  cavities := a.cavities.map fun c : CavityArg =>
                    { cls := c.cls.toNat, required := c.required.toNat, overTol := min 3 c.overTol.toNat,
                      feeder := Port.all[c.feeder.toNat]?, verify := c.verify == 1, orient := c.orient == 1 } }
              exec (.recipeWrite p tag o a) s = .next (finished r (.response (.recipeWrite id stored 0)) s
                (s.setRecipe id stored))))))

/-- INDEX_INTERVAL_SET, TRACE_LEVELS_SET and ARBITER_WRITE (chapter 1 section 1.2, chapter 8 section 8.3, chapter 9
section 9.4): the values stored, with their clamps, in any line state, and the RESPONSEs. -/
def Obligations.SettingsWritten : Prop :=
  ∀ (p : Port) (tag : Octet) (s : State), (s.station p).perms.config = true →
    (∀ v : Half, let r : Request := ⟨p, tag, .indexIntervalSet v⟩
      InService r s → exec (.indexIntervalSet p tag v) s
        = .next (finished r (.response (.indexIntervalSet (max 20 (min 2000 v.toNat)))) s
          { s with interval := max 20 (min 2000 v.toNat) })) ∧
    (∀ n h : Half, let r : Request := ⟨p, tag, .traceLevelsSet n h⟩
      InService r s → exec (.traceLevelsSet p tag n h) s
        = .next (finished r (.response (.traceLevelsSet (max 1 (min 255 n.toNat)) (max 4 (min 128 h.toNat))
            s.trace.length)) s
          { s with notify := max 1 (min 255 n.toNat), holdLevel := max 4 (min 128 h.toNat) })) ∧
    ∀ v : Vector Octet 32, let r : Request := ⟨p, tag, .arbiterWrite v⟩
      InService r s → ∃ table : Vector Port 32,
        (∀ i : Fin 32, portNat (table.get i) = if (v.get i).toNat ≤ 7 then (v.get i).toNat else 0) ∧
        exec (.arbiterWrite p tag v) s
          = .next (finished r (.response (.arbiterWrite table)) s { s with arbiter := table })

/-- RETIRE_READ (chapter 8 section 8.4): a count other than 1 or 2 is refused BAD_VALUE; else the oldest records, as many
as the count or as there are, leave the queue for the RESPONSE, oldest first, and CARDS_READ grows by their number. -/
def Obligations.RetireReadTakesOldest : Prop :=
  ∀ (p : Port) (tag n : Octet) (s : State), let r : Request := ⟨p, tag, .retireRead n⟩
    InService r s → (s.station p).perms.trace = true →
    (n.toNat ≠ 1 → n.toNat ≠ 2 → exec (.retireRead p tag n) s = .next (refused r .badValue 0 s)) ∧
    ∀ read left, (n.toNat = 1 ∨ n.toNat = 2) → s.trace = read ++ left →
      (read.length = n.toNat ∨ read.length < n.toNat ∧ left = []) →
      exec (.retireRead p tag n) s = .next (finished r (.response (.retireRead left.length read)) s
        { s with trace := left, cardsRead := s.cardsRead + BitVec.ofNat 32 read.length })

/-- The queries that need no permission (chapters 1, 2, 3, 7, 8 and 9): each is answered with the values as they stand,
or refused, and changes nothing but its answer's queue. A card's report has the strike tallies of the lower and the higher
SEAL port; that a sole SEAL port is the lower, and of more than two, which START refuses, the two lowest are meant, is the
model's reading (log entry 10). -/
def Obligations.QueriesAnswered : Prop :=
  ∀ (p : Port) (tag : Octet) (s : State),
    let answers (c : Instr) (body : ReqBody) (m : Response) : Prop := InService ⟨p, tag, body⟩ s →
      exec c s = .next (finished ⟨p, tag, body⟩ (.response m) s s)
    let refuses (c : Instr) (body : ReqBody) (code : Code) : Prop := InService ⟨p, tag, body⟩ s →
      exec c s = .next (refused ⟨p, tag, body⟩ code 0 s)
    (∀ ends, ((s.rows = [] ∧ ends = none) ∨ ∃ low ∈ s.rows, ∃ high ∈ s.rows,
        s.rows.Pairwise (fun a b => b.offset < a.offset) ∧
        (∀ x ∈ s.rows, low.offset ≤ x.offset ∧ x.offset ≤ high.offset) ∧ ends = some (low.number, high.number)) →
      answers (.lineStatus p tag) .lineStatus (.lineStatus
        { line := s.line, indexCount := s.indexCount, lastIndex := s.lastIndex, timeTag := s.timeTag,
          interval := s.interval, selected := s.selected, exitOffset := s.exitOffset, sealOffset := s.sealOffset,
          rowCount := s.rows.length, ends := ends, useCounts := s.useCounts })) ∧
    (∀ o : Octet,
      (∀ q, o.toNat = portNat q → answers (.stationRead p tag o) (.stationRead o)
        (.stationRead [⟨q, s.station q, (s.port q).link⟩])) ∧
      (o = 255 → answers (.stationRead p tag o) (.stationRead o)
        (.stationRead ([Port.p0, .p1, .p2, .p3, .p4, .p5, .p6, .p7].map fun q =>
          ⟨q, s.station q, (s.port q).link⟩))) ∧
      (7 < o.toNat → o ≠ 255 → refuses (.stationRead p tag o) (.stationRead o) .badValue)) ∧
    (∀ o : Octet,
      (∀ id : RecipeId, o.toNat = id.val → answers (.recipeRead p tag o) (.recipeRead o)
        (.recipeRead id (s.recipe id) (s.useCount id) (decide (s.selected = some id)))) ∧
      (15 < o.toNat → refuses (.recipeRead p tag o) (.recipeRead o) .badValue)) ∧
    (∀ (n : Word) (lane : Octet),
      (s.findRow n = none → refuses (.cardQuery p tag n lane) (.cardQuery n lane) .unknownRow) ∧
      ∀ row, s.findRow n = some row →
        ((3 < lane.toNat ∨ row.laneMask.getLsbD lane.toNat = false) →
          refuses (.cardQuery p tag n lane) (.cardQuery n lane) .malformed) ∧
        ∀ (l : Fin 4) (c : Card), lane.toNat = l.val → row.laneMask.getLsbD l.val = true → row.card l = some c →
          ∀ low high,
            ((∀ q, (s.station q).role ≠ .seal) ∧ low = none ∧ high = none ∨
              (∃ a, (s.station a).role = .seal ∧ (∀ q, (s.station q).role = .seal → q = a) ∧
                low = some (c.tallies.get a) ∧ high = none) ∨
              ∃ a b, (s.station a).role = .seal ∧ (s.station b).role = .seal ∧ portNat a < portNat b ∧
                (∀ q, (s.station q).role = .seal → q = a ∨ portNat b ≤ portNat q) ∧
                low = some (c.tallies.get a) ∧ high = some (c.tallies.get b)) →
            answers (.cardQuery p tag n lane) (.cardQuery n lane) (.cardQuery
              ⟨row.number, row.offset, row.recipe, c, low, high⟩)) ∧
    (∀ o : Octet,
      (63 < o.toNat → refuses (.rowQuery p tag o) (.rowQuery o) .badValue) ∧
      (o.toNat ≤ 63 → (∀ row ∈ s.rows, row.offset ≠ o.toNat) →
        refuses (.rowQuery p tag o) (.rowQuery o) .unknownRow) ∧
      ∀ row older newer, o.toNat ≤ 63 → s.rows = older ++ row :: newer → row.offset = o.toNat →
        (∀ x ∈ older, x.offset ≠ o.toNat) → answers (.rowQuery p tag o) (.rowQuery o)
          (.rowQuery row.number row.offset row.recipe row.laneMask row.formed
            (row.cards.map fun c => ⟨c.lane, c.state, c.verdict, c.reason⟩))) ∧
    answers (.traceStatus p tag) .traceStatus (.traceStatus
      { occupancy := s.trace.length, free := 256 - s.trace.length, notify := s.notify, holdLevel := s.holdLevel,
        ready := decide (s.notify ≤ s.trace.length), hold := decide (256 - s.trace.length < s.holdLevel),
        oldest := s.trace.head?.map fun x => (x.row, x.lane) }) ∧
    (∀ o : Octet,
      (∀ q, o.toNat = portNat q → answers (.countersRead p tag o) (.countersRead o) (.countersRead
        [s.cardsFormed, s.cardsPurged, s.cardsDropped, s.cardsRead, s.indexCount, s.indexGlitches, s.goodLost,
          s.goodUnconfirmed, (s.port q).linkErrors, (s.port q).briefLost, (s.port q).refusalLost,
          (s.port q).inboundOverruns])) ∧
      (7 < o.toNat → refuses (.countersRead p tag o) (.countersRead o) .badValue)) ∧
    answers (.arbiterRead p tag) .arbiterRead (.arbiterRead s.arbiter s.phase)

/-- The attention commands (chapter 10 section 10.2): the read changes nothing; enables are added and removed; a clear
removes the named latched events and no state condition; each answers with the sets that result, on the sender's own
unit and without a permission; a set with any of bits 12 to 15 is refused BAD_VALUE. The state conditions (sections 9.7
and 10.1) are TRACE_READY in bit 0, HOLD in bit 1 and DISCHARGE_FAULT in bit 2, each set while its rule says so, and no
latched event is among them; the masked status is the members of a port's status that are in its enable set; and the
latched events are bits 3 to 11 in the order of section 9.7. -/
def Obligations.AttentionCommands : Prop :=
  (∀ s : State,
    (s.conditions.getLsbD 0 = true ↔ s.notify ≤ s.trace.length) ∧ (s.conditions.getLsbD 1 = true ↔ s.hold = true) ∧
    (s.conditions.getLsbD 2 = true ↔ s.fault ≠ none) ∧ (∀ i, 3 ≤ i → s.conditions.getLsbD i = false) ∧
    ∀ p, s.masked p = (s.conditions ||| (s.port p).latched) &&& (s.port p).enables) ∧
  [Event.traceOverrun, .lineState, .indexGlitch, .jam, .loadFault, .briefLost, .refusalLost, .inboundOverrun,
    .linkError].map eventBit = [0x008, 0x010, 0x020, 0x040, 0x080, 0x100, 0x200, 0x400, 0x800] ∧
  ∀ (p : Port) (tag : Octet) (s : State),
    (let r : Request := ⟨p, tag, .attnStatusRead⟩
     InService r s → exec (.attnStatusRead p tag) s = .next (finished r (.response (.attnStatusRead
      (s.conditions ||| (s.port p).latched) (s.port p).enables
      ((s.conditions ||| (s.port p).latched) &&& (s.port p).enables))) s s)) ∧
    (∀ h : Half, 4096 ≤ h.toNat →
      (InService ⟨p, tag, .attnEnableSet h⟩ s → exec (.attnEnableSet p tag h) s
        = .next (refused ⟨p, tag, .attnEnableSet h⟩ .badValue 0 s)) ∧
      (InService ⟨p, tag, .attnEnableClear h⟩ s → exec (.attnEnableClear p tag h) s
        = .next (refused ⟨p, tag, .attnEnableClear h⟩ .badValue 0 s)) ∧
      (InService ⟨p, tag, .attnClear h⟩ s → exec (.attnClear p tag h) s
        = .next (refused ⟨p, tag, .attnClear h⟩ .badValue 0 s))) ∧
    ∀ (h : Half) (c : CondSet), h.toNat = c.toNat →
      (let r : Request := ⟨p, tag, .attnEnableSet h⟩
       let e := (s.port p).enables ||| c
       InService r s → exec (.attnEnableSet p tag h) s = .next (finished r (.response (.attnEnableSet e
        ((s.conditions ||| (s.port p).latched) &&& e))) s (s.setPort p { s.port p with enables := e }))) ∧
      (let r : Request := ⟨p, tag, .attnEnableClear h⟩
       let e := (s.port p).enables &&& ~~~c
       InService r s → exec (.attnEnableClear p tag h) s = .next (finished r (.response (.attnEnableClear e
        ((s.conditions ||| (s.port p).latched) &&& e))) s (s.setPort p { s.port p with enables := e }))) ∧
      (let r : Request := ⟨p, tag, .attnClear h⟩
       let l := (s.port p).latched &&& ~~~c
       InService r s → exec (.attnClear p tag h) s = .next (finished r (.response (.attnClear
        (s.conditions ||| l) ((s.conditions ||| l) &&& (s.port p).enables))) s
        (s.setPort p { s.port p with latched := l })))

/-! ### Frames -/

/-- Every request that a frame can carry is read back from its frame, with every field at every value, under any credit
octet, and no octet between the flags is a flag (chapter 9 sections 9.1 and 9.7); nothing else is read as a request: the
octets of a good frame are those of a request's frame. So a frame is bad when an escape octet is followed by an octet
other than E5h or EAh, or by the closing flag, and when, the escape undone, its length is not six more than the length
octet, the length octet is above 128, the check does not match, or the kind names no request. The octets of a frame the
part sends are read back by the same escape, with a check that agrees. The check is spelled bit by bit, generator 1021h,
initial value FFFFh, each octet most significant bit first, with the value that R143 gives for the octets 31h to 39h;
and so are the octet order, the escape, and each request's kind and argument octets. -/
def Obligations.RequestFramesReadBack : Prop :=
  -- the check
  (crc [] = 0xFFFF ∧ crc [0x31, 0x32, 0x33, 0x34, 0x35, 0x36, 0x37, 0x38, 0x39] = 0x29B1 ∧
    ∀ (l : List Octet) (o : Octet), crc (l ++ [o]) = (List.range 8).foldl
      (fun (c : Half) k => if c.msb != o.getMsbD k then (c <<< 1) ^^^ 0x1021 else c <<< 1) (crc l)) ∧
  -- octet order, the escape and the frame
  (∀ h : Half, halfOctets h = [octet (h.toNat / 256), octet (h.toNat % 256)]) ∧
  (∀ w : Word, wordOctets w = [octet (w.toNat / 16777216), octet (w.toNat / 65536 % 256), octet (w.toNat / 256 % 256),
    octet (w.toNat % 256)]) ∧
  (escape [] = [] ∧ ∀ (o : Octet) (l : List Octet), escape (o :: l)
    = (if o = 0xC5 then [0xCA, 0xE5] else if o = 0xCA then [0xCA, 0xEA] else [o]) ++ escape l) ∧
  (∀ (r : InReq) (credit : Octet),
    let body := [bodyKind r.body, r.tag, credit, octet (bodyOctets r.body).length] ++ bodyOctets r.body
    requestFrame r credit = escape (body ++ halfOctets (crc body))) ∧
  -- the kind and the argument octets of each request
  (let spells (b : ReqBody) (kind : Octet) (octets : List Octet) : Prop :=
      bodyKind b = kind ∧ bodyOctets b = octets ∧ (b.posted = true ↔ kind.toNat ≤ 5);
    (∀ row lane splice outcomes, spells (.formResult row lane splice outcomes) 0x01
      (wordOctets row ++ [lane, splice, octet outcomes.length] ++ outcomes)) ∧
    (∀ row lane pairs, spells (.placement row lane pairs) 0x02
      (wordOctets row ++ [lane, octet pairs.length] ++ pairs.flatMap fun e => [e.cavity, e.count])) ∧
    (∀ row lane entries, spells (.inspection row lane entries) 0x03
      (wordOctets row ++ [lane, octet entries.length]
        ++ entries.flatMap fun e => [e.cavity, e.classSeen, e.count, e.orientation])) ∧
    (∀ row lane sealed t w p, spells (.sealHit row lane sealed t w p) 0x04
      (wordOctets row ++ [lane, sealed] ++ halfOctets t ++ halfOctets w ++ halfOctets p)) ∧
    (∀ row lane outcome, spells (.discharge row lane outcome) 0x05 (wordOctets row ++ [lane, outcome])) ∧
    spells .start 0x10 [] ∧ spells .stopForming 0x11 [] ∧ (∀ id, spells (.selectRecipe id) 0x12 [id]) ∧
    spells .purge 0x13 [] ∧
    (∀ row count mask, spells (.condemn row count mask) 0x14 (wordOctets row ++ [count, mask])) ∧
    spells .releaseHold 0x15 [] ∧ (∀ p m, spells (.stationModeSet p m) 0x16 [p, m]) ∧
    (∀ p e, spells (.stationWrite p e) 0x17 [p, e.role, e.offset, e.window, e.required, e.mode, e.perms]) ∧
    (∀ id r, spells (.recipeWrite id r) 0x18 ([id] ++ recipeArgOctets r)) ∧
    (∀ r : RecipeArg, recipeArgOctets r = [r.valid] ++ halfOctets r.customer
      ++ [r.laneMask, r.cavityCount, r.recover, r.refillLimit] ++ halfOctets r.tAct ++ halfOctets r.dMin
      ++ halfOctets r.dMax ++ halfOctets r.pMin ++ [octet r.cavities.length]
      ++ r.cavities.flatMap fun c => [c.cls, c.required, c.overTol, c.feeder, c.verify, c.orient]) ∧
    (∀ v, spells (.indexIntervalSet v) 0x19 (halfOctets v)) ∧
    (∀ n h, spells (.traceLevelsSet n h) 0x1A (halfOctets n ++ halfOctets h)) ∧
    (∀ v, spells (.arbiterWrite v) 0x1B v.toList) ∧ (∀ n, spells (.retireRead n) 0x1C [n]) ∧
    spells .lineStatus 0x1D [] ∧ (∀ p, spells (.stationRead p) 0x1E [p]) ∧
    (∀ id, spells (.recipeRead id) 0x1F [id]) ∧
    (∀ row lane, spells (.cardQuery row lane) 0x20 (wordOctets row ++ [lane])) ∧
    (∀ o, spells (.rowQuery o) 0x21 [o]) ∧ spells .traceStatus 0x22 [] ∧ (∀ p, spells (.countersRead p) 0x23 [p]) ∧
    spells .arbiterRead 0x24 [] ∧ spells .attnStatusRead 0x25 [] ∧
    (∀ c, spells (.attnEnableSet c) 0x26 (halfOctets c)) ∧ (∀ c, spells (.attnEnableClear c) 0x27 (halfOctets c)) ∧
    ∀ c, spells (.attnClear c) 0x28 (halfOctets c)) ∧
  -- reading back
  (∀ (r : InReq) (credit : Octet), r.body.wellFormed = true →
    readFrame (requestFrame r credit) = some r ∧ ∀ o ∈ requestFrame r credit, o ≠ 0xC5) ∧
  (∀ (octets : List Octet) (r : InReq), readFrame octets = some r →
    r.body.wellFormed = true ∧ ∃ credit, octets = requestFrame r credit) ∧
  (∀ l m : List Octet, ∀ e : Octet, e ≠ 0xE5 → e ≠ 0xEA → readFrame (l ++ 0xCA :: e :: m) = none) ∧
  (∀ l : List Octet, readFrame (l ++ [0xCA]) = none) ∧
  (∀ plain : List Octet, unescape (escape plain) = some plain ∧ (plain.length < 6 → readFrame (escape plain) = none)) ∧
  (∀ (kind tag credit len : Octet) (rest : List Octet),
    (6 + len.toNat ≠ rest.length + 4 → readFrame (escape (kind :: tag :: credit :: len :: rest)) = none) ∧
    (128 < len.toNat → readFrame (escape (kind :: tag :: credit :: len :: rest)) = none) ∧
    ((kind.toNat = 0 ∨ 0x05 < kind.toNat ∧ kind.toNat < 0x10 ∨ 0x28 < kind.toNat) →
      readFrame (escape (kind :: tag :: credit :: len :: rest)) = none) ∧
    ∀ (payload : List Octet) (check : Half), rest = payload ++ halfOctets check →
      check ≠ crc (kind :: tag :: credit :: len :: payload) →
      readFrame (escape (kind :: tag :: credit :: len :: rest)) = none) ∧
  ∀ f : OutFrame, unescape f.wire = some (plainFrame f.kind f.tag f.credit f.payload) ∧
    (f.payload.length ≤ 128 → ∃ body check, plainFrame f.kind f.tag f.credit f.payload = body ++ halfOctets check ∧
      body = [f.kind, f.tag, f.credit, octet f.payload.length] ++ f.payload ∧ crc body = check)

/-- The payloads the part sends, octet by octet and bit by bit (chapter 9 section 9.7, chapter 7 section 7.1 for the
numbers of the reasons, chapter 9 section 9.6 for those of the refusal codes): the codes, each RESPONSE after the kind
of the request answered, REFUSAL, CREDIT and ATTENTION, the briefs, the retire record and the card record. `fieldOf`
reads octets and `bitsOf` bits of a layout where the section names them. The one-octet width of a RESPONSE field with no
width given (log entry 7), the zeros of an absent minimum pressure (log entry 8) and the order of the strike tallies
(log entry 10) are the model's reading, and that bit n of the reported set is port n is its choice (log entry 27). -/
def Obligations.PayloadLayouts : Prop :=
  -- codes
  ([Role.unassigned, .form, .feed, .inspect, .topup, .seal, .punch, .supervisor].map roleOctet = [0, 1, 2, 3, 4, 5, 6, 7] ∧
    [LineState.idle, .run, .drain].map lineOctet = [0, 1, 2] ∧ [Link.down, .up].map linkOctet = [0, 1] ∧
    [Mode.offline, .active].map modeOctet = [0, 1] ∧
    [none, some Discharge.goodChute, some .rejectChute, some .jammed, some .unknown].map dischargeCode = [0, 1, 2, 3, 4] ∧
    [none, some Reason.splice, some .formFault, some .noReport, some .wrongItem, some .orientation, some .overCount,
      some .shortCount, some .refillExhausted, some .notInspected, some .sealPressure, some .sealLow, some .sealHigh,
      some .operator].map reasonCode = [0, 1, 2, 3, 4, 5, 6, 7, 8, 9, 10, 11, 12, 13] ∧
    [Code.notReady, .unknownRow, .early, .late, .forbidden, .offline, .malformed, .badValue, .inUse, .lineActive,
      .configInvalid, .recipeInvalid].map codeOctet = [1, 2, 3, 4, 5, 6, 7, 8, 9, 10, 11, 12] ∧
    [CardState.opened, .judged, .frozen].map stateCode = [0, 1, 2] ∧
    [none, some Verdict.pass, some .reject].map verdictCode = [0, 1, 2] ∧
    [none, some FormOutcome.good, some .thin, some .notFormed].map formCode = [0, 1, 2, 3] ∧
    [none, some RefillOutcome.ordered, some .placed, some .notDelivered, some .noReport].map refillCode = [0, 1, 2, 3, 4] ∧
    [Orientation.ok, .reversed, .undetermined].map orientationCode = [0, 1, 2] ∧
    [Port.p0, .p1, .p2, .p3, .p4, .p5, .p6, .p7].map portNat = [0, 1, 2, 3, 4, 5, 6, 7] ∧
    (∀ p, portCode (some p) = portNat p) ∧ portCode none = 15) ∧
  -- messages other than RESPONSEs
  (∀ (masked : CondSet) (tag kind : Octet) (code : Code) (detail : Nat),
    messageOctets masked (.refusal tag kind code detail) = named [kind, codeOctet code, octet detail] ∧
    messageOctets masked .credit = [] ∧ (messageOctets masked .attention).length = 2 ∧
    bitsOf (messageOctets masked .attention) 0 3 0 = some (masked.toNat / 256) ∧
    fieldOf (messageOctets masked .attention) 1 1 = some (masked.toNat % 256) ∧
    messageOctets masked .attention = condOctets masked ∧
    (∀ a, messageKind (.response tag a) = 0x40) ∧ messageKind (.refusal tag kind code detail) = 0x41 ∧
    (∀ b, messageKind (.brief b) = 0x42 ∧ messageOctets masked (.brief b) = briefOctets b) ∧
    messageKind .credit = 0x43 ∧ messageKind .attention = 0x44) ∧
  -- entries
  (∀ e : Station, e.offset ≤ 255 → e.window ≤ 255 → let l := stationOctets e
    l.length = 6 ∧ l.take 5 = named [roleOctet e.role, octet e.offset, octet e.window, if e.required then 1 else 0,
      modeOctet e.mode] ∧
    bitsOf l 5 0 0 = some (if e.perms.operate then 1 else 0) ∧ bitsOf l 5 1 1 = some (if e.perms.config then 1 else 0) ∧
    bitsOf l 5 2 2 = some (if e.perms.trace then 1 else 0)) ∧
  (∀ r : Recipe, recipeOctets r
    = [if r.valid then 1 else 0] ++ halfOctets r.customer ++ [octet r.laneMask.toNat, octet r.cavities.length,
        if r.recover then 1 else 0, octet r.refillLimit] ++ natHalf r.tAct ++ natHalf r.dMin ++ natHalf r.dMax
      ++ natHalf r.pMin ++ [octet r.cavities.length] ++ r.cavities.flatMap fun c =>
        [octet c.cls, octet c.required, octet c.overTol,
          (match c.feeder with | some p => octet (portNat p) | none => 255),
          if c.verify then 1 else 0, if c.orient then 1 else 0]) ∧
  -- RESPONSEs
  (∀ (masked : CondSet) (tag : Octet), let sent (a : Response) := messageOctets masked (.response tag a)
    (∀ line e s1, sent (.start line e s1) = named [0x10, lineOctet line, octet (e.getD 255), octet (s1.getD 255)]) ∧
    (∀ line, sent (.stopForming line) = named [0x11, lineOctet line]) ∧
    (∀ id, sent (.selectRecipe id) = named [0x12, octet id.val]) ∧
    (∀ rows cards, sent (.purge rows cards) = named [0x13, octet rows, octet cards]) ∧
    (∀ rows done left, sent (.condemn rows done left) = named [0x14, octet rows, octet done, octet left]) ∧
    (∀ f, sent (.releaseHold (some f))
      = named ([0x15, 1] ++ wordOctets f.row ++ [octet f.lane.val, octet (dischargeCode f.discharge)])) ∧
    sent (.releaseHold none) = named [0x15, 0, 0, 0, 0, 0, 0, 0] ∧
    (∀ p m, sent (.stationModeSet p m) = named [0x16, octet (portNat p), modeOctet m]) ∧
    (∀ p e, sent (.stationWrite p e) = named [0x17, octet (portNat p)] ++ stationOctets e) ∧
    (∀ id r n, sent (.recipeWrite id r n) = named ([0x18, octet id.val] ++ recipeOctets r ++ [octet n])) ∧
    (∀ n, sent (.indexIntervalSet n) = named (0x19 :: natHalf n)) ∧
    (∀ n h o, sent (.traceLevelsSet n h o) = named (0x1A :: natHalf n ++ natHalf h ++ natHalf o)) ∧
    (∀ v, sent (.arbiterWrite v) = named (0x1B :: v.toList.map fun p => octet (portNat p))) ∧
    (∀ o records, sent (.retireRead o records)
      = named ([0x1C, octet records.length] ++ natHalf o) ++ records.flatMap retireOctets) ∧
    (∀ r : LineReport, sent (.lineStatus r) = named ([0x1D, lineOctet r.line] ++ wordOctets r.indexCount
      ++ (match r.lastIndex with | some w => 1 :: wordOctets w | none => [0, 0, 0, 0, 0])
      ++ wordOctets r.timeTag ++ natHalf r.interval
      ++ [(match r.selected with | some id => octet id.val | none => 255), octet (r.exitOffset.getD 255),
        octet (r.sealOffset.getD 255), octet r.rowCount]
      ++ (match r.ends with
        | some (low, high) => 1 :: wordOctets low ++ wordOctets high
        | none => [0, 0, 0, 0, 0, 0, 0, 0, 0])
      ++ r.useCounts.toList.map octet)) ∧
    (∀ entries, sent (.stationRead entries) = named [0x1E] ++ entries.flatMap fun e =>
      named [octet (portNat e.port)] ++ stationOctets e.entry ++ named [linkOctet e.link]) ∧
    (∀ id r n b, sent (.recipeRead id r n b)
      = named ([0x1F, octet id.val] ++ recipeOctets r ++ [octet n, if b then 1 else 0])) ∧
    (∀ r, sent (.cardQuery r) = named [0x20] ++ cardOctets r) ∧
    (∀ row o id mask formed cards, ∃ part : RowCard → List OutOctet,
      sent (.rowQuery row o id mask formed cards) = named ([0x21] ++ wordOctets row ++ [octet o, octet id.val,
        octet mask.toNat] ++ wordOctets formed ++ [octet cards.length]) ++ cards.flatMap part ∧
      ∀ c, (part c).length = 2 ∧ bitsOf (part c) 0 7 6 = some c.lane.val ∧ bitsOf (part c) 0 5 4 = some (stateCode c.state) ∧
        bitsOf (part c) 0 3 2 = some (verdictCode c.verdict) ∧ fieldOf (part c) 1 1 = some (reasonCode c.reason)) ∧
    (∀ r : TraceReport, let l := sent (.traceStatus r)
      l.take 9 = named (0x22 :: natHalf r.occupancy ++ natHalf r.free ++ natHalf r.notify ++ natHalf r.holdLevel) ∧
      bitsOf l 9 0 0 = some (if r.ready then 1 else 0) ∧ bitsOf l 9 1 1 = some (if r.hold then 1 else 0) ∧
      l.drop 10 = named (match r.oldest with
        | some (row, lane) => 1 :: wordOctets row ++ [octet lane.val]
        | none => [0, 0, 0, 0, 0, 0])) ∧
    (∀ l, sent (.countersRead l) = named (0x23 :: l.flatMap wordOctets)) ∧
    (∀ v phase, sent (.arbiterRead v phase)
      = named (0x24 :: (v.toList.map fun p => octet (portNat p)) ++ [octet phase.val])) ∧
    (∀ a b c, sent (.attnStatusRead a b c) = named [0x25] ++ condOctets a ++ condOctets b ++ condOctets c) ∧
    (∀ a b, sent (.attnEnableSet a b) = named [0x26] ++ condOctets a ++ condOctets b ∧
      sent (.attnEnableClear a b) = named [0x27] ++ condOctets a ++ condOctets b ∧
      sent (.attnClear a b) = named [0x28] ++ condOctets a ++ condOctets b)) ∧
  -- briefs
  (∀ (row formed : Word) (id : RecipeId) (mask : BitVec 4) (n : Nat), briefOctets (.form row id mask n formed)
    = named ([1] ++ wordOctets row ++ [octet id.val, octet mask.toNat, octet n] ++ wordOctets formed)) ∧
  (∃ part : FeedCard → List OutOctet,
    (∀ row id mask cards, briefOctets (.feed row id mask cards)
      = named ([2] ++ wordOctets row ++ [octet id.val, octet mask.toNat]) ++ cards.flatMap part) ∧
    ∀ c, (part c).length = 2 + 2 * c.cavities.length ∧ bitsOf (part c) 0 7 6 = some c.lane.val ∧
      bitsOf (part c) 0 0 0 = some (if c.condemned then 1 else 0) ∧
      (c.cavities.length ≤ 255 → fieldOf (part c) 1 1 = some c.cavities.length) ∧
      ∀ i cavity required cls, c.cavities[i]? = some (cavity, required, cls) → cavity ≤ 15 → required ≤ 15 → cls ≤ 63 →
        bitsOf (part c) (2 + 2 * i) 7 4 = some cavity ∧ bitsOf (part c) (2 + 2 * i) 3 0 = some required ∧
        bitsOf (part c) (3 + 2 * i) 5 0 = some cls) ∧
  (∃ part : InspectCard → List OutOctet,
    (∀ row id mask cards, briefOctets (.inspect row id mask cards)
      = named ([3] ++ wordOctets row ++ [octet id.val, octet mask.toNat]) ++ cards.flatMap part) ∧
    ∀ c, (part c).length = 1 + 2 * c.cavities.length ∧ bitsOf (part c) 0 7 6 = some c.lane.val ∧
      bitsOf (part c) 0 0 0 = some (if c.condemned then 1 else 0) ∧
      ∀ i x, c.cavities[i]? = some x → x.cls ≤ 63 → x.required ≤ 15 → x.count ≤ 15 →
        bitsOf (part c) (1 + 2 * i) 7 2 = some x.cls ∧ bitsOf (part c) (1 + 2 * i) 1 1 = some (if x.verify then 1 else 0) ∧
        bitsOf (part c) (1 + 2 * i) 0 0 = some (if x.orient then 1 else 0) ∧
        bitsOf (part c) (2 + 2 * i) 7 4 = some x.required ∧ bitsOf (part c) (2 + 2 * i) 3 0 = some x.count) ∧
  (∃ part : OrderLine → List OutOctet,
    (∀ row id lines, briefOctets (.topup row id lines)
      = named ([4] ++ wordOctets row ++ [octet id.val, octet lines.length]) ++ lines.flatMap part) ∧
    ∀ x, (part x).length = 2 ∧ (x.cavity ≤ 15 → x.missing ≤ 15 → x.cls ≤ 63 →
      fieldOf (part x) 0 2 = some (x.lane.val * 2 ^ 14 + x.cavity * 2 ^ 10 + x.missing * 2 ^ 6 + x.cls))) ∧
  (∃ part : SealCard → List OutOctet,
    (∀ row id tAct pMin dMin dMax cards, briefOctets (.seal row id tAct pMin dMin dMax cards)
      = named ([5] ++ wordOctets row ++ [octet id.val] ++ natHalf tAct ++ natHalf pMin ++ natHalf dMin ++ natHalf dMax
        ++ [octet cards.length]) ++ cards.flatMap part) ∧
    ∀ c, (part c).length = 4 ∧ bitsOf (part c) 0 7 6 = some c.lane.val ∧
      bitsOf (part c) 0 2 2 = some (if c.condemned then 1 else 0) ∧
      bitsOf (part c) 0 1 1 = some (if c.inhibited then 1 else 0) ∧
      bitsOf (part c) 0 0 0 = some (if c.saturated then 1 else 0) ∧
      (c.hits ≤ 255 → fieldOf (part c) 1 1 = some c.hits) ∧ (c.dose ≤ 65535 → fieldOf (part c) 2 2 = some c.dose)) ∧
  (∃ part : PunchCard → List OutOctet,
    (∀ row id cards, briefOctets (.punch row id cards)
      = named ([6] ++ wordOctets row ++ [octet id.val, octet cards.length]) ++ cards.flatMap part) ∧
    ∀ c, (part c).length = 2 ∧ bitsOf (part c) 0 7 6 = some c.lane.val ∧
      bitsOf (part c) 0 5 5 = some (if c.verdict = .reject then 1 else 0) ∧
      bitsOf (part c) 0 0 0 = some (if c.inhibited then 1 else 0) ∧ fieldOf (part c) 1 1 = some (reasonCode c.reason)) ∧
  -- records
  (∀ x : Seal, x.hits ≤ 15 → x.dose ≤ 65535 → (∀ m ∈ x.minPressure, m ≤ 65535) → let l := named (summaryOctets x)
    l.length = 5 ∧ bitsOf l 0 7 4 = some x.hits ∧ bitsOf l 0 3 3 = some (if x.saturated then 1 else 0) ∧
    bitsOf l 0 2 2 = some (if x.clamped then 1 else 0) ∧ bitsOf l 0 1 1 = some (if x.inhibited then 1 else 0) ∧
    bitsOf l 0 0 0 = some (if x.minPressure.isSome then 1 else 0) ∧ fieldOf l 1 2 = some x.dose ∧
    fieldOf l 3 2 = some (x.minPressure.getD 0)) ∧
  (∀ r : RetireRecord, r.counts.length = r.attempts.length → r.counts.length ≤ 255 → let l := retireOctets r
    l.length = 23 + r.counts.length ∧ fieldOf l 0 4 = some r.row.toNat ∧ bitsOf l 4 7 6 = some r.lane.val ∧
    bitsOf l 4 5 5 = some (if r.verdict = .reject then 1 else 0) ∧ bitsOf l 4 2 0 = some (dischargeCode r.discharge) ∧
    fieldOf l 5 1 = some r.recipe.val ∧ fieldOf l 6 2 = some r.customer.toNat ∧ bitsOf l 8 7 4 = some (reasonCode r.reason) ∧
    bitsOf l 8 3 0 = some (portCode r.station) ∧ fieldOf l 9 4 = some r.formed.toNat ∧
    fieldOf l 13 4 = some r.retired.toNat ∧ (l.drop 17).take 5 = named (summaryOctets r.summary) ∧
    fieldOf l 22 1 = some r.counts.length ∧
    ∀ i n a, r.counts[i]? = some n → r.attempts[i]? = some a → n ≤ 15 → a ≤ 3 →
      bitsOf l (23 + i) 7 4 = some n ∧ bitsOf l (23 + i) 1 0 = some a) ∧
  (∀ r : CardReport, r.offset ≤ 255 → (∀ o ∈ r.card.condemnOffset, o ≤ 254) → r.card.cavities.length ≤ 255 →
    (∀ n ∈ r.lowTally, n ≤ 15) → (∀ n ∈ r.highTally, n ≤ 15) → let l := cardOctets r
    fieldOf l 0 4 = some r.row.toNat ∧ fieldOf l 4 1 = some r.offset ∧ fieldOf l 5 1 = some r.recipe.val ∧
    bitsOf l 6 7 6 = some r.card.lane.val ∧ bitsOf l 6 5 4 = some (stateCode r.card.state) ∧
    bitsOf l 6 3 2 = some (verdictCode r.card.verdict) ∧ bitsOf l 7 7 4 = some (reasonCode r.card.reason) ∧
    bitsOf l 7 2 0 = some (dischargeCode r.card.discharge) ∧ fieldOf l 8 1 = some (portCode r.card.station) ∧
    fieldOf l 9 1 = some (r.card.condemnOffset.getD 255) ∧
    (∀ p, bitsOf l 10 (portNat p) (portNat p) = some (if r.card.reported.get p then 1 else 0)) ∧
    (l.drop 11).take 5 = named (summaryOctets r.card.summary) ∧ (∀ n, r.lowTally = some n → bitsOf l 16 7 4 = some n) ∧
    (∀ n, r.highTally = some n → bitsOf l 16 3 0 = some n) ∧ fieldOf l 17 1 = some r.card.cavities.length ∧
    l.drop 18 = r.card.cavities.flatMap cavityOctets) ∧
  ∀ c : Cavity, c.attempts ≤ 3 → c.placements.length ≤ 7 → c.count ≤ 15 → let l := cavityOctets c
    l.length = 5 + c.placements.length ∧ bitsOf l 0 7 6 = some (formCode c.form) ∧ bitsOf l 0 5 4 = some c.attempts ∧
    bitsOf l 0 2 0 = some c.placements.length ∧ bitsOf l 1 7 4 = some c.count ∧ bitsOf l 1 2 0 = some (refillCode c.refill) ∧
    bitsOf l 2 7 4 = some (portCode c.orderedBy) ∧
    bitsOf l 2 3 0 = some (portCode (c.inspection.map (·.station))) ∧
    (∀ i, c.inspection = some i → i.classSeen ≤ 63 → i.count ≤ 15 → bitsOf l 3 7 2 = some i.classSeen ∧
      bitsOf l 3 1 0 = some (orientationCode i.orientation) ∧ bitsOf l 4 7 4 = some i.count) ∧
    ∀ (i : Nat) (e : Placement), c.placements[i]? = some e → e.count ≤ 15 →
      bitsOf l (5 + i) 7 5 = some (portNat e.station) ∧ bitsOf l (5 + i) 3 0 = some e.count

/-! ### Whole-machine rules -/

/-- Rules the prose gives the whole part (chapters 1, 2, 3, 7, 8 and 10): only these commands change the line state; only
these remove a trace record; only these clear the discharge-fault latch, and a set latch keeps its first record; only
these change a station entry beyond its mode; after the load a recipe in use is never changed; HOLD is asserted exactly
while the trace queue's free space is below the hold level or the latch is set; and no command touches the queue of
commands (log entry 1). -/
def Obligations.WholeMachineRules : Prop :=
  (∀ (c : Instr) (s t : State), exec c s = .next t →
    (mayChangeLine c = false → t.line = s.line) ∧
    (mayShortenTrace c = false → ∃ records, t.trace = s.trace ++ records) ∧
    (mayClearFault c = false → ∀ f, s.fault = some f → t.fault = some f) ∧
    (mayWriteStations c = false → ∀ p, sameButMode (s.station p) (t.station p)) ∧
    (c ≠ .masterReset → s.load = .ready → ∀ id, s.useCount id ≠ 0 → t.recipe id = s.recipe id) ∧
    t.pending = s.pending) ∧
  ∀ s : State, s.hold = true ↔ 256 - s.trace.length < s.holdLevel ∨ s.fault ≠ none

/-- Condemnation (chapter 7 section 7.1): the three fields are set together, only on a card with no reason that is not
FROZEN; and on a sound map whose rows hold one card per lane, a reason once set, with its station and offset, is kept
through every command while the card is on the map. -/
def Obligations.CondemnationSetOnce : Prop :=
  (∀ (c : Card) (reason : Reason) (station : Option Port) (o : Nat),
    (c.reason = none → c.state ≠ .frozen → c.condemn reason station o
      = { c with reason := some reason, station := station, condemnOffset := some o }) ∧
    (c.reason ≠ none → c.condemn reason station o = c) ∧ (c.state = .frozen → c.condemn reason station o = c)) ∧
  ∀ (i : Instr) (s t : State), MapSound s → OneCardPerLane s → exec i s = .next t →
    ∀ row ∈ s.rows, ∀ c ∈ row.cards, ∀ row' ∈ t.rows, ∀ c' ∈ row'.cards, row'.number = row.number → c'.lane = c.lane →
      ∀ x, c.reason = some x → c'.reason = some x ∧ c'.station = c.station ∧ c'.condemnOffset = c.condemnOffset

/-! ### Invariants that every step keeps -/

/-- No queue exceeds its size and entries are reserved exactly for the request in service (chapter 8 section 8.2,
chapter 9 sections 9.2 and 9.3). -/
def Obligations.QueuesStayBounded : Prop :=
  ∀ s t : State, QueuesBounded s → step s = .next t → QueuesBounded t

/-- The conservation of cards (chapter 8 section 8.5). -/
def Obligations.CardsStayConserved : Prop :=
  ∀ s t : State, CardsConserved s → step s = .next t → CardsConserved t

/-- Each use count stays the number of rows on the map formed with its recipe (chapter 3 section 3.3). -/
def Obligations.UseCountsStayMatched : Prop :=
  ∀ s t : State, UseCountsMatch s → step s = .next t → UseCountsMatch t

/-- Verdict, reason and state of every card agree, and no retire record with a reason says PASS (chapter 7 sections 7.1
and 7.2, chapter 8 section 8.1); and where every card's state is that of its row's offset, so that what retires is FROZEN,
the reason of a retire record is absent exactly when its verdict is PASS. -/
def Obligations.VerdictsStaySound : Prop :=
  (∀ s t : State, VerdictsSound s → step s = .next t → VerdictsSound t) ∧
  ∀ s t : State, StatesFollowOffsets s → VerdictsSound s → TraceVerdictsExact s → step s = .next t →
    TraceVerdictsExact t

/-- On a sound map, every row keeps one card per lane, every seal summary stays within the limits that the strike
tallies give it, and only SEAL stations have strikes (chapter 4 section 4.5, chapter 6); with the one or two SEAL stations
of a line that START has passed, a card's hits are 0 to 8. That the map stays sound is a statement of its own. -/
def Obligations.SealsStayBounded : Prop :=
  (∀ s t : State, MapSound s → SealsBounded s → step s = .next t → SealsBounded t) ∧
  ∀ s : State, StatesFollowOffsets s → SealsBounded s → ∀ row ∈ s.rows, ∀ c ∈ row.cards, c.summary.hits ≤ 8

/-- The map, the line state, E and the index count agree (chapter 1 sections 1.1 and 1.4). -/
def Obligations.MapStaysSound : Prop :=
  ∀ s t : State, MapSound s → step s = .next t → MapSound t

/-- A recipe in use, and the selected recipe in RUN, stays valid, and so no step of the part stops (chapter 1 section
1.3, chapter 3 sections 3.2 to 3.5). -/
def Obligations.RecipesStaySoundAndStepsComplete : Prop :=
  ∀ s : State, RecipesSound s → ∃ t, step s = .next t ∧ RecipesSound t

/-- Every table and setting stays within its ranges (chapter 1 section 1.2, chapter 2 section 2.1, chapter 3 section 3.1,
chapter 8 section 8.3). -/
def Obligations.TablesStayInRange : Prop :=
  ∀ s t : State, TablesInRange s → step s = .next t → TablesInRange t

/-- Every card's state stays that of its row's offset: OPEN before S1, JUDGED before the PUNCH offset, then FROZEN
(chapter 1 section 1.5). -/
def Obligations.CardStatesFollowOffsets : Prop :=
  ∀ s t : State, StatesFollowOffsets s → step s = .next t → StatesFollowOffsets t

/-- The records of the map stay what their rules make them. Every row keeps its recipe's lane mask and cavity count, and
every cavity record the effective count of its evidence, one entry for a station, and no more attempts than the refill
limit (chapter 1 section 1.5, chapter 3 section 3.4, chapter 4 section 4.3, chapter 5 sections 5.1 and 5.3); a placement
list holds at most four entries on a line that START has passed; and a reported set holds only ports whose window for
the row is open (section 1.5). -/
def Obligations.CardRecordsStaySound : Prop :=
  (∀ s t : State, MapSound s → UseCountsMatch s → CavitiesSound s → step s = .next t → CavitiesSound t) ∧
  (∀ s : State, StatesFollowOffsets s → CavitiesSound s →
    ∀ row ∈ s.rows, ∀ c ∈ row.cards, ∀ cav ∈ c.cavities, cav.placements.length ≤ 4) ∧
  ∀ s t : State, MapSound s → ReportedOpen s → step s = .next t → ReportedOpen t
end

