-- ==== Sys2Proof/Laws/Ports.lean ====
section
/-! SUPPORT. Laws of the per-port values: reading after replacing, and equality port by port. -/

namespace Sys2Proof.Machine

variable {α : Type}

@[simp] theorem PerPort.get_set_same (v : PerPort α) (p : Port) (x : α) : (v.set p x).get p = x := by
  cases p <;> rfl

theorem PerPort.get_set_of_ne (v : PerPort α) {p q : Port} (x : α) (h : q ≠ p) : (v.set p x).get q = v.get q := by
  cases p <;> cases q <;> first | rfl | exact absurd rfl h

theorem PerPort.get_set (v : PerPort α) (p q : Port) (x : α) :
    (v.set p x).get q = if q = p then x else v.get q := by
  split
  · next h => rw [h, PerPort.get_set_same]
  · next h => exact PerPort.get_set_of_ne v x h

@[simp] theorem PerPort.get_ofFn (f : Port → α) (p : Port) : (PerPort.ofFn f).get p = f p := by
  cases p <;> rfl

@[simp] theorem PerPort.get_all (x : α) (p : Port) : (PerPort.all x).get p = x := by
  cases p <;> rfl

theorem PerPort.ext_get {v w : PerPort α} (h : ∀ p, v.get p = w.get p) : v = w := by
  cases v
  cases w
  have h0 := h .p0
  have h1 := h .p1
  have h2 := h .p2
  have h3 := h .p3
  have h4 := h .p4
  have h5 := h .p5
  have h6 := h .p6
  have h7 := h .p7
  simp only [PerPort.get] at h0 h1 h2 h3 h4 h5 h6 h7
  simp [h0, h1, h2, h3, h4, h5, h6, h7]

@[simp] theorem PerPort.set_get_self (v : PerPort α) (p : Port) : v.set p (v.get p) = v :=
  PerPort.ext_get fun q => by
    rw [PerPort.get_set]
    split
    · next h => rw [h]
    · rfl

@[simp] theorem PerPort.ofFn_get (v : PerPort α) : PerPort.ofFn v.get = v :=
  PerPort.ext_get fun p => PerPort.get_ofFn v.get p

theorem PerPort.ofFn_congr {f g : Port → α} (h : ∀ p, f p = g p) : PerPort.ofFn f = PerPort.ofFn g :=
  congrArg PerPort.ofFn (funext h)

@[simp] theorem Port.mem_all (p : Port) : p ∈ Port.all := by cases p <;> decide

theorem Port.all_nodup : Port.all.Nodup := by decide

end Sys2Proof.Machine
end

