-- ==== Sys2Proof/Laws/State.lean ====
section
/-! SUPPORT. What each update of State leaves alone, one lemma per field and update, so that no proof unfolds a record
update. -/

namespace Sys2Proof.Machine

/-! ### State.setPort -/

@[simp] theorem State.setPort_pending (s : State) (p : Port) (b : PortBlock) : (s.setPort p b).pending = s.pending := rfl
@[simp] theorem State.setPort_resetHeld (s : State) (p : Port) (b : PortBlock) : (s.setPort p b).resetHeld = s.resetHeld := rfl
@[simp] theorem State.setPort_line (s : State) (p : Port) (b : PortBlock) : (s.setPort p b).line = s.line := rfl
@[simp] theorem State.setPort_rows (s : State) (p : Port) (b : PortBlock) : (s.setPort p b).rows = s.rows := rfl
@[simp] theorem State.setPort_exitOffset (s : State) (p : Port) (b : PortBlock) : (s.setPort p b).exitOffset = s.exitOffset := rfl
@[simp] theorem State.setPort_sealOffset (s : State) (p : Port) (b : PortBlock) : (s.setPort p b).sealOffset = s.sealOffset := rfl
@[simp] theorem State.setPort_indexCount (s : State) (p : Port) (b : PortBlock) : (s.setPort p b).indexCount = s.indexCount := rfl
@[simp] theorem State.setPort_lastIndex (s : State) (p : Port) (b : PortBlock) : (s.setPort p b).lastIndex = s.lastIndex := rfl
@[simp] theorem State.setPort_advancesDue (s : State) (p : Port) (b : PortBlock) : (s.setPort p b).advancesDue = s.advancesDue := rfl
@[simp] theorem State.setPort_timeTag (s : State) (p : Port) (b : PortBlock) : (s.setPort p b).timeTag = s.timeTag := rfl
@[simp] theorem State.setPort_interval (s : State) (p : Port) (b : PortBlock) : (s.setPort p b).interval = s.interval := rfl
@[simp] theorem State.setPort_sinceLast (s : State) (p : Port) (b : PortBlock) : (s.setPort p b).sinceLast = s.sinceLast := rfl
@[simp] theorem State.setPort_cardsFormed (s : State) (p : Port) (b : PortBlock) : (s.setPort p b).cardsFormed = s.cardsFormed := rfl
@[simp] theorem State.setPort_cardsPurged (s : State) (p : Port) (b : PortBlock) : (s.setPort p b).cardsPurged = s.cardsPurged := rfl
@[simp] theorem State.setPort_indexGlitches (s : State) (p : Port) (b : PortBlock) : (s.setPort p b).indexGlitches = s.indexGlitches := rfl
@[simp] theorem State.setPort_stations (s : State) (p : Port) (b : PortBlock) : (s.setPort p b).stations = s.stations := rfl
@[simp] theorem State.setPort_recipes (s : State) (p : Port) (b : PortBlock) : (s.setPort p b).recipes = s.recipes := rfl
@[simp] theorem State.setPort_useCounts (s : State) (p : Port) (b : PortBlock) : (s.setPort p b).useCounts = s.useCounts := rfl
@[simp] theorem State.setPort_selected (s : State) (p : Port) (b : PortBlock) : (s.setPort p b).selected = s.selected := rfl
@[simp] theorem State.setPort_trace (s : State) (p : Port) (b : PortBlock) : (s.setPort p b).trace = s.trace := rfl
@[simp] theorem State.setPort_notify (s : State) (p : Port) (b : PortBlock) : (s.setPort p b).notify = s.notify := rfl
@[simp] theorem State.setPort_holdLevel (s : State) (p : Port) (b : PortBlock) : (s.setPort p b).holdLevel = s.holdLevel := rfl
@[simp] theorem State.setPort_cardsDropped (s : State) (p : Port) (b : PortBlock) : (s.setPort p b).cardsDropped = s.cardsDropped := rfl
@[simp] theorem State.setPort_cardsRead (s : State) (p : Port) (b : PortBlock) : (s.setPort p b).cardsRead = s.cardsRead := rfl
@[simp] theorem State.setPort_goodLost (s : State) (p : Port) (b : PortBlock) : (s.setPort p b).goodLost = s.goodLost := rfl
@[simp] theorem State.setPort_goodUnconfirmed (s : State) (p : Port) (b : PortBlock) : (s.setPort p b).goodUnconfirmed = s.goodUnconfirmed := rfl
@[simp] theorem State.setPort_fault (s : State) (p : Port) (b : PortBlock) : (s.setPort p b).fault = s.fault := rfl
@[simp] theorem State.setPort_arbiter (s : State) (p : Port) (b : PortBlock) : (s.setPort p b).arbiter = s.arbiter := rfl
@[simp] theorem State.setPort_phase (s : State) (p : Port) (b : PortBlock) : (s.setPort p b).phase = s.phase := rfl
@[simp] theorem State.setPort_engine (s : State) (p : Port) (b : PortBlock) : (s.setPort p b).engine = s.engine := rfl
@[simp] theorem State.setPort_load (s : State) (p : Port) (b : PortBlock) : (s.setPort p b).load = s.load := rfl
@[simp] theorem State.setPort_loadAddr (s : State) (p : Port) (b : PortBlock) : (s.setPort p b).loadAddr = s.loadAddr := rfl
@[simp] theorem State.setPort_loadSelected (s : State) (p : Port) (b : PortBlock) : (s.setPort p b).loadSelected = s.loadSelected := rfl
@[simp] theorem State.setPort_freeCount (s : State) (p : Port) (b : PortBlock) : (s.setPort p b).freeCount = s.freeCount := rfl

/-! ### State.onPort -/

@[simp] theorem State.onPort_pending (s : State) (p : Port) (f : PortBlock → PortBlock) : (s.onPort p f).pending = s.pending := rfl
@[simp] theorem State.onPort_resetHeld (s : State) (p : Port) (f : PortBlock → PortBlock) : (s.onPort p f).resetHeld = s.resetHeld := rfl
@[simp] theorem State.onPort_line (s : State) (p : Port) (f : PortBlock → PortBlock) : (s.onPort p f).line = s.line := rfl
@[simp] theorem State.onPort_rows (s : State) (p : Port) (f : PortBlock → PortBlock) : (s.onPort p f).rows = s.rows := rfl
@[simp] theorem State.onPort_exitOffset (s : State) (p : Port) (f : PortBlock → PortBlock) : (s.onPort p f).exitOffset = s.exitOffset := rfl
@[simp] theorem State.onPort_sealOffset (s : State) (p : Port) (f : PortBlock → PortBlock) : (s.onPort p f).sealOffset = s.sealOffset := rfl
@[simp] theorem State.onPort_indexCount (s : State) (p : Port) (f : PortBlock → PortBlock) : (s.onPort p f).indexCount = s.indexCount := rfl
@[simp] theorem State.onPort_lastIndex (s : State) (p : Port) (f : PortBlock → PortBlock) : (s.onPort p f).lastIndex = s.lastIndex := rfl
@[simp] theorem State.onPort_advancesDue (s : State) (p : Port) (f : PortBlock → PortBlock) : (s.onPort p f).advancesDue = s.advancesDue := rfl
@[simp] theorem State.onPort_timeTag (s : State) (p : Port) (f : PortBlock → PortBlock) : (s.onPort p f).timeTag = s.timeTag := rfl
@[simp] theorem State.onPort_interval (s : State) (p : Port) (f : PortBlock → PortBlock) : (s.onPort p f).interval = s.interval := rfl
@[simp] theorem State.onPort_sinceLast (s : State) (p : Port) (f : PortBlock → PortBlock) : (s.onPort p f).sinceLast = s.sinceLast := rfl
@[simp] theorem State.onPort_cardsFormed (s : State) (p : Port) (f : PortBlock → PortBlock) : (s.onPort p f).cardsFormed = s.cardsFormed := rfl
@[simp] theorem State.onPort_cardsPurged (s : State) (p : Port) (f : PortBlock → PortBlock) : (s.onPort p f).cardsPurged = s.cardsPurged := rfl
@[simp] theorem State.onPort_indexGlitches (s : State) (p : Port) (f : PortBlock → PortBlock) : (s.onPort p f).indexGlitches = s.indexGlitches := rfl
@[simp] theorem State.onPort_stations (s : State) (p : Port) (f : PortBlock → PortBlock) : (s.onPort p f).stations = s.stations := rfl
@[simp] theorem State.onPort_recipes (s : State) (p : Port) (f : PortBlock → PortBlock) : (s.onPort p f).recipes = s.recipes := rfl
@[simp] theorem State.onPort_useCounts (s : State) (p : Port) (f : PortBlock → PortBlock) : (s.onPort p f).useCounts = s.useCounts := rfl
@[simp] theorem State.onPort_selected (s : State) (p : Port) (f : PortBlock → PortBlock) : (s.onPort p f).selected = s.selected := rfl
@[simp] theorem State.onPort_trace (s : State) (p : Port) (f : PortBlock → PortBlock) : (s.onPort p f).trace = s.trace := rfl
@[simp] theorem State.onPort_notify (s : State) (p : Port) (f : PortBlock → PortBlock) : (s.onPort p f).notify = s.notify := rfl
@[simp] theorem State.onPort_holdLevel (s : State) (p : Port) (f : PortBlock → PortBlock) : (s.onPort p f).holdLevel = s.holdLevel := rfl
@[simp] theorem State.onPort_cardsDropped (s : State) (p : Port) (f : PortBlock → PortBlock) : (s.onPort p f).cardsDropped = s.cardsDropped := rfl
@[simp] theorem State.onPort_cardsRead (s : State) (p : Port) (f : PortBlock → PortBlock) : (s.onPort p f).cardsRead = s.cardsRead := rfl
@[simp] theorem State.onPort_goodLost (s : State) (p : Port) (f : PortBlock → PortBlock) : (s.onPort p f).goodLost = s.goodLost := rfl
@[simp] theorem State.onPort_goodUnconfirmed (s : State) (p : Port) (f : PortBlock → PortBlock) : (s.onPort p f).goodUnconfirmed = s.goodUnconfirmed := rfl
@[simp] theorem State.onPort_fault (s : State) (p : Port) (f : PortBlock → PortBlock) : (s.onPort p f).fault = s.fault := rfl
@[simp] theorem State.onPort_arbiter (s : State) (p : Port) (f : PortBlock → PortBlock) : (s.onPort p f).arbiter = s.arbiter := rfl
@[simp] theorem State.onPort_phase (s : State) (p : Port) (f : PortBlock → PortBlock) : (s.onPort p f).phase = s.phase := rfl
@[simp] theorem State.onPort_engine (s : State) (p : Port) (f : PortBlock → PortBlock) : (s.onPort p f).engine = s.engine := rfl
@[simp] theorem State.onPort_load (s : State) (p : Port) (f : PortBlock → PortBlock) : (s.onPort p f).load = s.load := rfl
@[simp] theorem State.onPort_loadAddr (s : State) (p : Port) (f : PortBlock → PortBlock) : (s.onPort p f).loadAddr = s.loadAddr := rfl
@[simp] theorem State.onPort_loadSelected (s : State) (p : Port) (f : PortBlock → PortBlock) : (s.onPort p f).loadSelected = s.loadSelected := rfl
@[simp] theorem State.onPort_freeCount (s : State) (p : Port) (f : PortBlock → PortBlock) : (s.onPort p f).freeCount = s.freeCount := rfl

/-! ### State.onPorts -/

@[simp] theorem State.onPorts_pending (s : State) (f : Port → PortBlock → PortBlock) : (s.onPorts f).pending = s.pending := rfl
@[simp] theorem State.onPorts_resetHeld (s : State) (f : Port → PortBlock → PortBlock) : (s.onPorts f).resetHeld = s.resetHeld := rfl
@[simp] theorem State.onPorts_line (s : State) (f : Port → PortBlock → PortBlock) : (s.onPorts f).line = s.line := rfl
@[simp] theorem State.onPorts_rows (s : State) (f : Port → PortBlock → PortBlock) : (s.onPorts f).rows = s.rows := rfl
@[simp] theorem State.onPorts_exitOffset (s : State) (f : Port → PortBlock → PortBlock) : (s.onPorts f).exitOffset = s.exitOffset := rfl
@[simp] theorem State.onPorts_sealOffset (s : State) (f : Port → PortBlock → PortBlock) : (s.onPorts f).sealOffset = s.sealOffset := rfl
@[simp] theorem State.onPorts_indexCount (s : State) (f : Port → PortBlock → PortBlock) : (s.onPorts f).indexCount = s.indexCount := rfl
@[simp] theorem State.onPorts_lastIndex (s : State) (f : Port → PortBlock → PortBlock) : (s.onPorts f).lastIndex = s.lastIndex := rfl
@[simp] theorem State.onPorts_advancesDue (s : State) (f : Port → PortBlock → PortBlock) : (s.onPorts f).advancesDue = s.advancesDue := rfl
@[simp] theorem State.onPorts_timeTag (s : State) (f : Port → PortBlock → PortBlock) : (s.onPorts f).timeTag = s.timeTag := rfl
@[simp] theorem State.onPorts_interval (s : State) (f : Port → PortBlock → PortBlock) : (s.onPorts f).interval = s.interval := rfl
@[simp] theorem State.onPorts_sinceLast (s : State) (f : Port → PortBlock → PortBlock) : (s.onPorts f).sinceLast = s.sinceLast := rfl
@[simp] theorem State.onPorts_cardsFormed (s : State) (f : Port → PortBlock → PortBlock) : (s.onPorts f).cardsFormed = s.cardsFormed := rfl
@[simp] theorem State.onPorts_cardsPurged (s : State) (f : Port → PortBlock → PortBlock) : (s.onPorts f).cardsPurged = s.cardsPurged := rfl
@[simp] theorem State.onPorts_indexGlitches (s : State) (f : Port → PortBlock → PortBlock) : (s.onPorts f).indexGlitches = s.indexGlitches := rfl
@[simp] theorem State.onPorts_stations (s : State) (f : Port → PortBlock → PortBlock) : (s.onPorts f).stations = s.stations := rfl
@[simp] theorem State.onPorts_recipes (s : State) (f : Port → PortBlock → PortBlock) : (s.onPorts f).recipes = s.recipes := rfl
@[simp] theorem State.onPorts_useCounts (s : State) (f : Port → PortBlock → PortBlock) : (s.onPorts f).useCounts = s.useCounts := rfl
@[simp] theorem State.onPorts_selected (s : State) (f : Port → PortBlock → PortBlock) : (s.onPorts f).selected = s.selected := rfl
@[simp] theorem State.onPorts_trace (s : State) (f : Port → PortBlock → PortBlock) : (s.onPorts f).trace = s.trace := rfl
@[simp] theorem State.onPorts_notify (s : State) (f : Port → PortBlock → PortBlock) : (s.onPorts f).notify = s.notify := rfl
@[simp] theorem State.onPorts_holdLevel (s : State) (f : Port → PortBlock → PortBlock) : (s.onPorts f).holdLevel = s.holdLevel := rfl
@[simp] theorem State.onPorts_cardsDropped (s : State) (f : Port → PortBlock → PortBlock) : (s.onPorts f).cardsDropped = s.cardsDropped := rfl
@[simp] theorem State.onPorts_cardsRead (s : State) (f : Port → PortBlock → PortBlock) : (s.onPorts f).cardsRead = s.cardsRead := rfl
@[simp] theorem State.onPorts_goodLost (s : State) (f : Port → PortBlock → PortBlock) : (s.onPorts f).goodLost = s.goodLost := rfl
@[simp] theorem State.onPorts_goodUnconfirmed (s : State) (f : Port → PortBlock → PortBlock) : (s.onPorts f).goodUnconfirmed = s.goodUnconfirmed := rfl
@[simp] theorem State.onPorts_fault (s : State) (f : Port → PortBlock → PortBlock) : (s.onPorts f).fault = s.fault := rfl
@[simp] theorem State.onPorts_arbiter (s : State) (f : Port → PortBlock → PortBlock) : (s.onPorts f).arbiter = s.arbiter := rfl
@[simp] theorem State.onPorts_phase (s : State) (f : Port → PortBlock → PortBlock) : (s.onPorts f).phase = s.phase := rfl
@[simp] theorem State.onPorts_engine (s : State) (f : Port → PortBlock → PortBlock) : (s.onPorts f).engine = s.engine := rfl
@[simp] theorem State.onPorts_load (s : State) (f : Port → PortBlock → PortBlock) : (s.onPorts f).load = s.load := rfl
@[simp] theorem State.onPorts_loadAddr (s : State) (f : Port → PortBlock → PortBlock) : (s.onPorts f).loadAddr = s.loadAddr := rfl
@[simp] theorem State.onPorts_loadSelected (s : State) (f : Port → PortBlock → PortBlock) : (s.onPorts f).loadSelected = s.loadSelected := rfl
@[simp] theorem State.onPorts_freeCount (s : State) (f : Port → PortBlock → PortBlock) : (s.onPorts f).freeCount = s.freeCount := rfl

/-! ### announce -/

@[simp] theorem announce_pending (before after : State) : (announce before after).pending = after.pending := rfl
@[simp] theorem announce_resetHeld (before after : State) : (announce before after).resetHeld = after.resetHeld := rfl
@[simp] theorem announce_line (before after : State) : (announce before after).line = after.line := rfl
@[simp] theorem announce_rows (before after : State) : (announce before after).rows = after.rows := rfl
@[simp] theorem announce_exitOffset (before after : State) : (announce before after).exitOffset = after.exitOffset := rfl
@[simp] theorem announce_sealOffset (before after : State) : (announce before after).sealOffset = after.sealOffset := rfl
@[simp] theorem announce_indexCount (before after : State) : (announce before after).indexCount = after.indexCount := rfl
@[simp] theorem announce_lastIndex (before after : State) : (announce before after).lastIndex = after.lastIndex := rfl
@[simp] theorem announce_advancesDue (before after : State) : (announce before after).advancesDue = after.advancesDue := rfl
@[simp] theorem announce_timeTag (before after : State) : (announce before after).timeTag = after.timeTag := rfl
@[simp] theorem announce_interval (before after : State) : (announce before after).interval = after.interval := rfl
@[simp] theorem announce_sinceLast (before after : State) : (announce before after).sinceLast = after.sinceLast := rfl
@[simp] theorem announce_cardsFormed (before after : State) : (announce before after).cardsFormed = after.cardsFormed := rfl
@[simp] theorem announce_cardsPurged (before after : State) : (announce before after).cardsPurged = after.cardsPurged := rfl
@[simp] theorem announce_indexGlitches (before after : State) : (announce before after).indexGlitches = after.indexGlitches := rfl
@[simp] theorem announce_stations (before after : State) : (announce before after).stations = after.stations := rfl
@[simp] theorem announce_recipes (before after : State) : (announce before after).recipes = after.recipes := rfl
@[simp] theorem announce_useCounts (before after : State) : (announce before after).useCounts = after.useCounts := rfl
@[simp] theorem announce_selected (before after : State) : (announce before after).selected = after.selected := rfl
@[simp] theorem announce_trace (before after : State) : (announce before after).trace = after.trace := rfl
@[simp] theorem announce_notify (before after : State) : (announce before after).notify = after.notify := rfl
@[simp] theorem announce_holdLevel (before after : State) : (announce before after).holdLevel = after.holdLevel := rfl
@[simp] theorem announce_cardsDropped (before after : State) : (announce before after).cardsDropped = after.cardsDropped := rfl
@[simp] theorem announce_cardsRead (before after : State) : (announce before after).cardsRead = after.cardsRead := rfl
@[simp] theorem announce_goodLost (before after : State) : (announce before after).goodLost = after.goodLost := rfl
@[simp] theorem announce_goodUnconfirmed (before after : State) : (announce before after).goodUnconfirmed = after.goodUnconfirmed := rfl
@[simp] theorem announce_fault (before after : State) : (announce before after).fault = after.fault := rfl
@[simp] theorem announce_arbiter (before after : State) : (announce before after).arbiter = after.arbiter := rfl
@[simp] theorem announce_phase (before after : State) : (announce before after).phase = after.phase := rfl
@[simp] theorem announce_engine (before after : State) : (announce before after).engine = after.engine := rfl
@[simp] theorem announce_load (before after : State) : (announce before after).load = after.load := rfl
@[simp] theorem announce_loadAddr (before after : State) : (announce before after).loadAddr = after.loadAddr := rfl
@[simp] theorem announce_loadSelected (before after : State) : (announce before after).loadSelected = after.loadSelected := rfl
@[simp] theorem announce_freeCount (before after : State) : (announce before after).freeCount = after.freeCount := rfl

/-! ### latchOn -/

@[simp] theorem latchOn_pending (choose : Port → Bool) (e : Event) (s : State) : (latchOn choose e s).pending = s.pending := rfl
@[simp] theorem latchOn_resetHeld (choose : Port → Bool) (e : Event) (s : State) : (latchOn choose e s).resetHeld = s.resetHeld := rfl
@[simp] theorem latchOn_line (choose : Port → Bool) (e : Event) (s : State) : (latchOn choose e s).line = s.line := rfl
@[simp] theorem latchOn_rows (choose : Port → Bool) (e : Event) (s : State) : (latchOn choose e s).rows = s.rows := rfl
@[simp] theorem latchOn_exitOffset (choose : Port → Bool) (e : Event) (s : State) : (latchOn choose e s).exitOffset = s.exitOffset := rfl
@[simp] theorem latchOn_sealOffset (choose : Port → Bool) (e : Event) (s : State) : (latchOn choose e s).sealOffset = s.sealOffset := rfl
@[simp] theorem latchOn_indexCount (choose : Port → Bool) (e : Event) (s : State) : (latchOn choose e s).indexCount = s.indexCount := rfl
@[simp] theorem latchOn_lastIndex (choose : Port → Bool) (e : Event) (s : State) : (latchOn choose e s).lastIndex = s.lastIndex := rfl
@[simp] theorem latchOn_advancesDue (choose : Port → Bool) (e : Event) (s : State) : (latchOn choose e s).advancesDue = s.advancesDue := rfl
@[simp] theorem latchOn_timeTag (choose : Port → Bool) (e : Event) (s : State) : (latchOn choose e s).timeTag = s.timeTag := rfl
@[simp] theorem latchOn_interval (choose : Port → Bool) (e : Event) (s : State) : (latchOn choose e s).interval = s.interval := rfl
@[simp] theorem latchOn_sinceLast (choose : Port → Bool) (e : Event) (s : State) : (latchOn choose e s).sinceLast = s.sinceLast := rfl
@[simp] theorem latchOn_cardsFormed (choose : Port → Bool) (e : Event) (s : State) : (latchOn choose e s).cardsFormed = s.cardsFormed := rfl
@[simp] theorem latchOn_cardsPurged (choose : Port → Bool) (e : Event) (s : State) : (latchOn choose e s).cardsPurged = s.cardsPurged := rfl
@[simp] theorem latchOn_indexGlitches (choose : Port → Bool) (e : Event) (s : State) : (latchOn choose e s).indexGlitches = s.indexGlitches := rfl
@[simp] theorem latchOn_stations (choose : Port → Bool) (e : Event) (s : State) : (latchOn choose e s).stations = s.stations := rfl
@[simp] theorem latchOn_recipes (choose : Port → Bool) (e : Event) (s : State) : (latchOn choose e s).recipes = s.recipes := rfl
@[simp] theorem latchOn_useCounts (choose : Port → Bool) (e : Event) (s : State) : (latchOn choose e s).useCounts = s.useCounts := rfl
@[simp] theorem latchOn_selected (choose : Port → Bool) (e : Event) (s : State) : (latchOn choose e s).selected = s.selected := rfl
@[simp] theorem latchOn_trace (choose : Port → Bool) (e : Event) (s : State) : (latchOn choose e s).trace = s.trace := rfl
@[simp] theorem latchOn_notify (choose : Port → Bool) (e : Event) (s : State) : (latchOn choose e s).notify = s.notify := rfl
@[simp] theorem latchOn_holdLevel (choose : Port → Bool) (e : Event) (s : State) : (latchOn choose e s).holdLevel = s.holdLevel := rfl
@[simp] theorem latchOn_cardsDropped (choose : Port → Bool) (e : Event) (s : State) : (latchOn choose e s).cardsDropped = s.cardsDropped := rfl
@[simp] theorem latchOn_cardsRead (choose : Port → Bool) (e : Event) (s : State) : (latchOn choose e s).cardsRead = s.cardsRead := rfl
@[simp] theorem latchOn_goodLost (choose : Port → Bool) (e : Event) (s : State) : (latchOn choose e s).goodLost = s.goodLost := rfl
@[simp] theorem latchOn_goodUnconfirmed (choose : Port → Bool) (e : Event) (s : State) : (latchOn choose e s).goodUnconfirmed = s.goodUnconfirmed := rfl
@[simp] theorem latchOn_fault (choose : Port → Bool) (e : Event) (s : State) : (latchOn choose e s).fault = s.fault := rfl
@[simp] theorem latchOn_arbiter (choose : Port → Bool) (e : Event) (s : State) : (latchOn choose e s).arbiter = s.arbiter := rfl
@[simp] theorem latchOn_phase (choose : Port → Bool) (e : Event) (s : State) : (latchOn choose e s).phase = s.phase := rfl
@[simp] theorem latchOn_engine (choose : Port → Bool) (e : Event) (s : State) : (latchOn choose e s).engine = s.engine := rfl
@[simp] theorem latchOn_load (choose : Port → Bool) (e : Event) (s : State) : (latchOn choose e s).load = s.load := rfl
@[simp] theorem latchOn_loadAddr (choose : Port → Bool) (e : Event) (s : State) : (latchOn choose e s).loadAddr = s.loadAddr := rfl
@[simp] theorem latchOn_loadSelected (choose : Port → Bool) (e : Event) (s : State) : (latchOn choose e s).loadSelected = s.loadSelected := rfl
@[simp] theorem latchOn_freeCount (choose : Port → Bool) (e : Event) (s : State) : (latchOn choose e s).freeCount = s.freeCount := rfl

/-! ### raise -/

@[simp] theorem raise_pending (choose : Port → Bool) (e : Event) (s : State) : (raise choose e s).pending = s.pending := rfl
@[simp] theorem raise_resetHeld (choose : Port → Bool) (e : Event) (s : State) : (raise choose e s).resetHeld = s.resetHeld := rfl
@[simp] theorem raise_line (choose : Port → Bool) (e : Event) (s : State) : (raise choose e s).line = s.line := rfl
@[simp] theorem raise_rows (choose : Port → Bool) (e : Event) (s : State) : (raise choose e s).rows = s.rows := rfl
@[simp] theorem raise_exitOffset (choose : Port → Bool) (e : Event) (s : State) : (raise choose e s).exitOffset = s.exitOffset := rfl
@[simp] theorem raise_sealOffset (choose : Port → Bool) (e : Event) (s : State) : (raise choose e s).sealOffset = s.sealOffset := rfl
@[simp] theorem raise_indexCount (choose : Port → Bool) (e : Event) (s : State) : (raise choose e s).indexCount = s.indexCount := rfl
@[simp] theorem raise_lastIndex (choose : Port → Bool) (e : Event) (s : State) : (raise choose e s).lastIndex = s.lastIndex := rfl
@[simp] theorem raise_advancesDue (choose : Port → Bool) (e : Event) (s : State) : (raise choose e s).advancesDue = s.advancesDue := rfl
@[simp] theorem raise_timeTag (choose : Port → Bool) (e : Event) (s : State) : (raise choose e s).timeTag = s.timeTag := rfl
@[simp] theorem raise_interval (choose : Port → Bool) (e : Event) (s : State) : (raise choose e s).interval = s.interval := rfl
@[simp] theorem raise_sinceLast (choose : Port → Bool) (e : Event) (s : State) : (raise choose e s).sinceLast = s.sinceLast := rfl
@[simp] theorem raise_cardsFormed (choose : Port → Bool) (e : Event) (s : State) : (raise choose e s).cardsFormed = s.cardsFormed := rfl
@[simp] theorem raise_cardsPurged (choose : Port → Bool) (e : Event) (s : State) : (raise choose e s).cardsPurged = s.cardsPurged := rfl
@[simp] theorem raise_indexGlitches (choose : Port → Bool) (e : Event) (s : State) : (raise choose e s).indexGlitches = s.indexGlitches := rfl
@[simp] theorem raise_stations (choose : Port → Bool) (e : Event) (s : State) : (raise choose e s).stations = s.stations := rfl
@[simp] theorem raise_recipes (choose : Port → Bool) (e : Event) (s : State) : (raise choose e s).recipes = s.recipes := rfl
@[simp] theorem raise_useCounts (choose : Port → Bool) (e : Event) (s : State) : (raise choose e s).useCounts = s.useCounts := rfl
@[simp] theorem raise_selected (choose : Port → Bool) (e : Event) (s : State) : (raise choose e s).selected = s.selected := rfl
@[simp] theorem raise_trace (choose : Port → Bool) (e : Event) (s : State) : (raise choose e s).trace = s.trace := rfl
@[simp] theorem raise_notify (choose : Port → Bool) (e : Event) (s : State) : (raise choose e s).notify = s.notify := rfl
@[simp] theorem raise_holdLevel (choose : Port → Bool) (e : Event) (s : State) : (raise choose e s).holdLevel = s.holdLevel := rfl
@[simp] theorem raise_cardsDropped (choose : Port → Bool) (e : Event) (s : State) : (raise choose e s).cardsDropped = s.cardsDropped := rfl
@[simp] theorem raise_cardsRead (choose : Port → Bool) (e : Event) (s : State) : (raise choose e s).cardsRead = s.cardsRead := rfl
@[simp] theorem raise_goodLost (choose : Port → Bool) (e : Event) (s : State) : (raise choose e s).goodLost = s.goodLost := rfl
@[simp] theorem raise_goodUnconfirmed (choose : Port → Bool) (e : Event) (s : State) : (raise choose e s).goodUnconfirmed = s.goodUnconfirmed := rfl
@[simp] theorem raise_fault (choose : Port → Bool) (e : Event) (s : State) : (raise choose e s).fault = s.fault := rfl
@[simp] theorem raise_arbiter (choose : Port → Bool) (e : Event) (s : State) : (raise choose e s).arbiter = s.arbiter := rfl
@[simp] theorem raise_phase (choose : Port → Bool) (e : Event) (s : State) : (raise choose e s).phase = s.phase := rfl
@[simp] theorem raise_engine (choose : Port → Bool) (e : Event) (s : State) : (raise choose e s).engine = s.engine := rfl
@[simp] theorem raise_load (choose : Port → Bool) (e : Event) (s : State) : (raise choose e s).load = s.load := rfl
@[simp] theorem raise_loadAddr (choose : Port → Bool) (e : Event) (s : State) : (raise choose e s).loadAddr = s.loadAddr := rfl
@[simp] theorem raise_loadSelected (choose : Port → Bool) (e : Event) (s : State) : (raise choose e s).loadSelected = s.loadSelected := rfl
@[simp] theorem raise_freeCount (choose : Port → Bool) (e : Event) (s : State) : (raise choose e s).freeCount = s.freeCount := rfl

/-! ### State.setStation -/

@[simp] theorem State.setStation_pending (s : State) (p : Port) (e : Station) : (s.setStation p e).pending = s.pending := rfl
@[simp] theorem State.setStation_resetHeld (s : State) (p : Port) (e : Station) : (s.setStation p e).resetHeld = s.resetHeld := rfl
@[simp] theorem State.setStation_line (s : State) (p : Port) (e : Station) : (s.setStation p e).line = s.line := rfl
@[simp] theorem State.setStation_rows (s : State) (p : Port) (e : Station) : (s.setStation p e).rows = s.rows := rfl
@[simp] theorem State.setStation_exitOffset (s : State) (p : Port) (e : Station) : (s.setStation p e).exitOffset = s.exitOffset := rfl
@[simp] theorem State.setStation_sealOffset (s : State) (p : Port) (e : Station) : (s.setStation p e).sealOffset = s.sealOffset := rfl
@[simp] theorem State.setStation_indexCount (s : State) (p : Port) (e : Station) : (s.setStation p e).indexCount = s.indexCount := rfl
@[simp] theorem State.setStation_lastIndex (s : State) (p : Port) (e : Station) : (s.setStation p e).lastIndex = s.lastIndex := rfl
@[simp] theorem State.setStation_advancesDue (s : State) (p : Port) (e : Station) : (s.setStation p e).advancesDue = s.advancesDue := rfl
@[simp] theorem State.setStation_timeTag (s : State) (p : Port) (e : Station) : (s.setStation p e).timeTag = s.timeTag := rfl
@[simp] theorem State.setStation_interval (s : State) (p : Port) (e : Station) : (s.setStation p e).interval = s.interval := rfl
@[simp] theorem State.setStation_sinceLast (s : State) (p : Port) (e : Station) : (s.setStation p e).sinceLast = s.sinceLast := rfl
@[simp] theorem State.setStation_cardsFormed (s : State) (p : Port) (e : Station) : (s.setStation p e).cardsFormed = s.cardsFormed := rfl
@[simp] theorem State.setStation_cardsPurged (s : State) (p : Port) (e : Station) : (s.setStation p e).cardsPurged = s.cardsPurged := rfl
@[simp] theorem State.setStation_indexGlitches (s : State) (p : Port) (e : Station) : (s.setStation p e).indexGlitches = s.indexGlitches := rfl
@[simp] theorem State.setStation_recipes (s : State) (p : Port) (e : Station) : (s.setStation p e).recipes = s.recipes := rfl
@[simp] theorem State.setStation_useCounts (s : State) (p : Port) (e : Station) : (s.setStation p e).useCounts = s.useCounts := rfl
@[simp] theorem State.setStation_selected (s : State) (p : Port) (e : Station) : (s.setStation p e).selected = s.selected := rfl
@[simp] theorem State.setStation_trace (s : State) (p : Port) (e : Station) : (s.setStation p e).trace = s.trace := rfl
@[simp] theorem State.setStation_notify (s : State) (p : Port) (e : Station) : (s.setStation p e).notify = s.notify := rfl
@[simp] theorem State.setStation_holdLevel (s : State) (p : Port) (e : Station) : (s.setStation p e).holdLevel = s.holdLevel := rfl
@[simp] theorem State.setStation_cardsDropped (s : State) (p : Port) (e : Station) : (s.setStation p e).cardsDropped = s.cardsDropped := rfl
@[simp] theorem State.setStation_cardsRead (s : State) (p : Port) (e : Station) : (s.setStation p e).cardsRead = s.cardsRead := rfl
@[simp] theorem State.setStation_goodLost (s : State) (p : Port) (e : Station) : (s.setStation p e).goodLost = s.goodLost := rfl
@[simp] theorem State.setStation_goodUnconfirmed (s : State) (p : Port) (e : Station) : (s.setStation p e).goodUnconfirmed = s.goodUnconfirmed := rfl
@[simp] theorem State.setStation_fault (s : State) (p : Port) (e : Station) : (s.setStation p e).fault = s.fault := rfl
@[simp] theorem State.setStation_ports (s : State) (p : Port) (e : Station) : (s.setStation p e).ports = s.ports := rfl
@[simp] theorem State.setStation_arbiter (s : State) (p : Port) (e : Station) : (s.setStation p e).arbiter = s.arbiter := rfl
@[simp] theorem State.setStation_phase (s : State) (p : Port) (e : Station) : (s.setStation p e).phase = s.phase := rfl
@[simp] theorem State.setStation_engine (s : State) (p : Port) (e : Station) : (s.setStation p e).engine = s.engine := rfl
@[simp] theorem State.setStation_load (s : State) (p : Port) (e : Station) : (s.setStation p e).load = s.load := rfl
@[simp] theorem State.setStation_loadAddr (s : State) (p : Port) (e : Station) : (s.setStation p e).loadAddr = s.loadAddr := rfl
@[simp] theorem State.setStation_loadSelected (s : State) (p : Port) (e : Station) : (s.setStation p e).loadSelected = s.loadSelected := rfl
@[simp] theorem State.setStation_freeCount (s : State) (p : Port) (e : Station) : (s.setStation p e).freeCount = s.freeCount := rfl

/-! ### State.setUseCount -/

@[simp] theorem State.setUseCount_pending (s : State) (id : RecipeId) (n : Nat) : (s.setUseCount id n).pending = s.pending := rfl
@[simp] theorem State.setUseCount_resetHeld (s : State) (id : RecipeId) (n : Nat) : (s.setUseCount id n).resetHeld = s.resetHeld := rfl
@[simp] theorem State.setUseCount_line (s : State) (id : RecipeId) (n : Nat) : (s.setUseCount id n).line = s.line := rfl
@[simp] theorem State.setUseCount_rows (s : State) (id : RecipeId) (n : Nat) : (s.setUseCount id n).rows = s.rows := rfl
@[simp] theorem State.setUseCount_exitOffset (s : State) (id : RecipeId) (n : Nat) : (s.setUseCount id n).exitOffset = s.exitOffset := rfl
@[simp] theorem State.setUseCount_sealOffset (s : State) (id : RecipeId) (n : Nat) : (s.setUseCount id n).sealOffset = s.sealOffset := rfl
@[simp] theorem State.setUseCount_indexCount (s : State) (id : RecipeId) (n : Nat) : (s.setUseCount id n).indexCount = s.indexCount := rfl
@[simp] theorem State.setUseCount_lastIndex (s : State) (id : RecipeId) (n : Nat) : (s.setUseCount id n).lastIndex = s.lastIndex := rfl
@[simp] theorem State.setUseCount_advancesDue (s : State) (id : RecipeId) (n : Nat) : (s.setUseCount id n).advancesDue = s.advancesDue := rfl
@[simp] theorem State.setUseCount_timeTag (s : State) (id : RecipeId) (n : Nat) : (s.setUseCount id n).timeTag = s.timeTag := rfl
@[simp] theorem State.setUseCount_interval (s : State) (id : RecipeId) (n : Nat) : (s.setUseCount id n).interval = s.interval := rfl
@[simp] theorem State.setUseCount_sinceLast (s : State) (id : RecipeId) (n : Nat) : (s.setUseCount id n).sinceLast = s.sinceLast := rfl
@[simp] theorem State.setUseCount_cardsFormed (s : State) (id : RecipeId) (n : Nat) : (s.setUseCount id n).cardsFormed = s.cardsFormed := rfl
@[simp] theorem State.setUseCount_cardsPurged (s : State) (id : RecipeId) (n : Nat) : (s.setUseCount id n).cardsPurged = s.cardsPurged := rfl
@[simp] theorem State.setUseCount_indexGlitches (s : State) (id : RecipeId) (n : Nat) : (s.setUseCount id n).indexGlitches = s.indexGlitches := rfl
@[simp] theorem State.setUseCount_stations (s : State) (id : RecipeId) (n : Nat) : (s.setUseCount id n).stations = s.stations := rfl
@[simp] theorem State.setUseCount_recipes (s : State) (id : RecipeId) (n : Nat) : (s.setUseCount id n).recipes = s.recipes := rfl
@[simp] theorem State.setUseCount_selected (s : State) (id : RecipeId) (n : Nat) : (s.setUseCount id n).selected = s.selected := rfl
@[simp] theorem State.setUseCount_trace (s : State) (id : RecipeId) (n : Nat) : (s.setUseCount id n).trace = s.trace := rfl
@[simp] theorem State.setUseCount_notify (s : State) (id : RecipeId) (n : Nat) : (s.setUseCount id n).notify = s.notify := rfl
@[simp] theorem State.setUseCount_holdLevel (s : State) (id : RecipeId) (n : Nat) : (s.setUseCount id n).holdLevel = s.holdLevel := rfl
@[simp] theorem State.setUseCount_cardsDropped (s : State) (id : RecipeId) (n : Nat) : (s.setUseCount id n).cardsDropped = s.cardsDropped := rfl
@[simp] theorem State.setUseCount_cardsRead (s : State) (id : RecipeId) (n : Nat) : (s.setUseCount id n).cardsRead = s.cardsRead := rfl
@[simp] theorem State.setUseCount_goodLost (s : State) (id : RecipeId) (n : Nat) : (s.setUseCount id n).goodLost = s.goodLost := rfl
@[simp] theorem State.setUseCount_goodUnconfirmed (s : State) (id : RecipeId) (n : Nat) : (s.setUseCount id n).goodUnconfirmed = s.goodUnconfirmed := rfl
@[simp] theorem State.setUseCount_fault (s : State) (id : RecipeId) (n : Nat) : (s.setUseCount id n).fault = s.fault := rfl
@[simp] theorem State.setUseCount_ports (s : State) (id : RecipeId) (n : Nat) : (s.setUseCount id n).ports = s.ports := rfl
@[simp] theorem State.setUseCount_arbiter (s : State) (id : RecipeId) (n : Nat) : (s.setUseCount id n).arbiter = s.arbiter := rfl
@[simp] theorem State.setUseCount_phase (s : State) (id : RecipeId) (n : Nat) : (s.setUseCount id n).phase = s.phase := rfl
@[simp] theorem State.setUseCount_engine (s : State) (id : RecipeId) (n : Nat) : (s.setUseCount id n).engine = s.engine := rfl
@[simp] theorem State.setUseCount_load (s : State) (id : RecipeId) (n : Nat) : (s.setUseCount id n).load = s.load := rfl
@[simp] theorem State.setUseCount_loadAddr (s : State) (id : RecipeId) (n : Nat) : (s.setUseCount id n).loadAddr = s.loadAddr := rfl
@[simp] theorem State.setUseCount_loadSelected (s : State) (id : RecipeId) (n : Nat) : (s.setUseCount id n).loadSelected = s.loadSelected := rfl
@[simp] theorem State.setUseCount_freeCount (s : State) (id : RecipeId) (n : Nat) : (s.setUseCount id n).freeCount = s.freeCount := rfl

/-! ### State.setRecipe -/

@[simp] theorem State.setRecipe_pending (s : State) (id : RecipeId) (r : Recipe) : (s.setRecipe id r).pending = s.pending := rfl
@[simp] theorem State.setRecipe_resetHeld (s : State) (id : RecipeId) (r : Recipe) : (s.setRecipe id r).resetHeld = s.resetHeld := rfl
@[simp] theorem State.setRecipe_line (s : State) (id : RecipeId) (r : Recipe) : (s.setRecipe id r).line = s.line := rfl
@[simp] theorem State.setRecipe_rows (s : State) (id : RecipeId) (r : Recipe) : (s.setRecipe id r).rows = s.rows := rfl
@[simp] theorem State.setRecipe_exitOffset (s : State) (id : RecipeId) (r : Recipe) : (s.setRecipe id r).exitOffset = s.exitOffset := rfl
@[simp] theorem State.setRecipe_sealOffset (s : State) (id : RecipeId) (r : Recipe) : (s.setRecipe id r).sealOffset = s.sealOffset := rfl
@[simp] theorem State.setRecipe_indexCount (s : State) (id : RecipeId) (r : Recipe) : (s.setRecipe id r).indexCount = s.indexCount := rfl
@[simp] theorem State.setRecipe_lastIndex (s : State) (id : RecipeId) (r : Recipe) : (s.setRecipe id r).lastIndex = s.lastIndex := rfl
@[simp] theorem State.setRecipe_advancesDue (s : State) (id : RecipeId) (r : Recipe) : (s.setRecipe id r).advancesDue = s.advancesDue := rfl
@[simp] theorem State.setRecipe_timeTag (s : State) (id : RecipeId) (r : Recipe) : (s.setRecipe id r).timeTag = s.timeTag := rfl
@[simp] theorem State.setRecipe_interval (s : State) (id : RecipeId) (r : Recipe) : (s.setRecipe id r).interval = s.interval := rfl
@[simp] theorem State.setRecipe_sinceLast (s : State) (id : RecipeId) (r : Recipe) : (s.setRecipe id r).sinceLast = s.sinceLast := rfl
@[simp] theorem State.setRecipe_cardsFormed (s : State) (id : RecipeId) (r : Recipe) : (s.setRecipe id r).cardsFormed = s.cardsFormed := rfl
@[simp] theorem State.setRecipe_cardsPurged (s : State) (id : RecipeId) (r : Recipe) : (s.setRecipe id r).cardsPurged = s.cardsPurged := rfl
@[simp] theorem State.setRecipe_indexGlitches (s : State) (id : RecipeId) (r : Recipe) : (s.setRecipe id r).indexGlitches = s.indexGlitches := rfl
@[simp] theorem State.setRecipe_stations (s : State) (id : RecipeId) (r : Recipe) : (s.setRecipe id r).stations = s.stations := rfl
@[simp] theorem State.setRecipe_useCounts (s : State) (id : RecipeId) (r : Recipe) : (s.setRecipe id r).useCounts = s.useCounts := rfl
@[simp] theorem State.setRecipe_selected (s : State) (id : RecipeId) (r : Recipe) : (s.setRecipe id r).selected = s.selected := rfl
@[simp] theorem State.setRecipe_trace (s : State) (id : RecipeId) (r : Recipe) : (s.setRecipe id r).trace = s.trace := rfl
@[simp] theorem State.setRecipe_notify (s : State) (id : RecipeId) (r : Recipe) : (s.setRecipe id r).notify = s.notify := rfl
@[simp] theorem State.setRecipe_holdLevel (s : State) (id : RecipeId) (r : Recipe) : (s.setRecipe id r).holdLevel = s.holdLevel := rfl
@[simp] theorem State.setRecipe_cardsDropped (s : State) (id : RecipeId) (r : Recipe) : (s.setRecipe id r).cardsDropped = s.cardsDropped := rfl
@[simp] theorem State.setRecipe_cardsRead (s : State) (id : RecipeId) (r : Recipe) : (s.setRecipe id r).cardsRead = s.cardsRead := rfl
@[simp] theorem State.setRecipe_goodLost (s : State) (id : RecipeId) (r : Recipe) : (s.setRecipe id r).goodLost = s.goodLost := rfl
@[simp] theorem State.setRecipe_goodUnconfirmed (s : State) (id : RecipeId) (r : Recipe) : (s.setRecipe id r).goodUnconfirmed = s.goodUnconfirmed := rfl
@[simp] theorem State.setRecipe_fault (s : State) (id : RecipeId) (r : Recipe) : (s.setRecipe id r).fault = s.fault := rfl
@[simp] theorem State.setRecipe_ports (s : State) (id : RecipeId) (r : Recipe) : (s.setRecipe id r).ports = s.ports := rfl
@[simp] theorem State.setRecipe_arbiter (s : State) (id : RecipeId) (r : Recipe) : (s.setRecipe id r).arbiter = s.arbiter := rfl
@[simp] theorem State.setRecipe_phase (s : State) (id : RecipeId) (r : Recipe) : (s.setRecipe id r).phase = s.phase := rfl
@[simp] theorem State.setRecipe_engine (s : State) (id : RecipeId) (r : Recipe) : (s.setRecipe id r).engine = s.engine := rfl
@[simp] theorem State.setRecipe_load (s : State) (id : RecipeId) (r : Recipe) : (s.setRecipe id r).load = s.load := rfl
@[simp] theorem State.setRecipe_loadAddr (s : State) (id : RecipeId) (r : Recipe) : (s.setRecipe id r).loadAddr = s.loadAddr := rfl
@[simp] theorem State.setRecipe_loadSelected (s : State) (id : RecipeId) (r : Recipe) : (s.setRecipe id r).loadSelected = s.loadSelected := rfl
@[simp] theorem State.setRecipe_freeCount (s : State) (id : RecipeId) (r : Recipe) : (s.setRecipe id r).freeCount = s.freeCount := rfl

/-! ### placeAnswer -/

@[simp] theorem placeAnswer_pending (r : Request) (a : Answer) (s : State) : (placeAnswer r a s).pending = s.pending := by
  cases a <;> simp only [placeAnswer] <;> (try split) <;> rfl
@[simp] theorem placeAnswer_resetHeld (r : Request) (a : Answer) (s : State) : (placeAnswer r a s).resetHeld = s.resetHeld := by
  cases a <;> simp only [placeAnswer] <;> (try split) <;> rfl
@[simp] theorem placeAnswer_line (r : Request) (a : Answer) (s : State) : (placeAnswer r a s).line = s.line := by
  cases a <;> simp only [placeAnswer] <;> (try split) <;> rfl
@[simp] theorem placeAnswer_rows (r : Request) (a : Answer) (s : State) : (placeAnswer r a s).rows = s.rows := by
  cases a <;> simp only [placeAnswer] <;> (try split) <;> rfl
@[simp] theorem placeAnswer_exitOffset (r : Request) (a : Answer) (s : State) : (placeAnswer r a s).exitOffset = s.exitOffset := by
  cases a <;> simp only [placeAnswer] <;> (try split) <;> rfl
@[simp] theorem placeAnswer_sealOffset (r : Request) (a : Answer) (s : State) : (placeAnswer r a s).sealOffset = s.sealOffset := by
  cases a <;> simp only [placeAnswer] <;> (try split) <;> rfl
@[simp] theorem placeAnswer_indexCount (r : Request) (a : Answer) (s : State) : (placeAnswer r a s).indexCount = s.indexCount := by
  cases a <;> simp only [placeAnswer] <;> (try split) <;> rfl
@[simp] theorem placeAnswer_lastIndex (r : Request) (a : Answer) (s : State) : (placeAnswer r a s).lastIndex = s.lastIndex := by
  cases a <;> simp only [placeAnswer] <;> (try split) <;> rfl
@[simp] theorem placeAnswer_advancesDue (r : Request) (a : Answer) (s : State) : (placeAnswer r a s).advancesDue = s.advancesDue := by
  cases a <;> simp only [placeAnswer] <;> (try split) <;> rfl
@[simp] theorem placeAnswer_timeTag (r : Request) (a : Answer) (s : State) : (placeAnswer r a s).timeTag = s.timeTag := by
  cases a <;> simp only [placeAnswer] <;> (try split) <;> rfl
@[simp] theorem placeAnswer_interval (r : Request) (a : Answer) (s : State) : (placeAnswer r a s).interval = s.interval := by
  cases a <;> simp only [placeAnswer] <;> (try split) <;> rfl
@[simp] theorem placeAnswer_sinceLast (r : Request) (a : Answer) (s : State) : (placeAnswer r a s).sinceLast = s.sinceLast := by
  cases a <;> simp only [placeAnswer] <;> (try split) <;> rfl
@[simp] theorem placeAnswer_cardsFormed (r : Request) (a : Answer) (s : State) : (placeAnswer r a s).cardsFormed = s.cardsFormed := by
  cases a <;> simp only [placeAnswer] <;> (try split) <;> rfl
@[simp] theorem placeAnswer_cardsPurged (r : Request) (a : Answer) (s : State) : (placeAnswer r a s).cardsPurged = s.cardsPurged := by
  cases a <;> simp only [placeAnswer] <;> (try split) <;> rfl
@[simp] theorem placeAnswer_indexGlitches (r : Request) (a : Answer) (s : State) : (placeAnswer r a s).indexGlitches = s.indexGlitches := by
  cases a <;> simp only [placeAnswer] <;> (try split) <;> rfl
@[simp] theorem placeAnswer_stations (r : Request) (a : Answer) (s : State) : (placeAnswer r a s).stations = s.stations := by
  cases a <;> simp only [placeAnswer] <;> (try split) <;> rfl
@[simp] theorem placeAnswer_recipes (r : Request) (a : Answer) (s : State) : (placeAnswer r a s).recipes = s.recipes := by
  cases a <;> simp only [placeAnswer] <;> (try split) <;> rfl
@[simp] theorem placeAnswer_useCounts (r : Request) (a : Answer) (s : State) : (placeAnswer r a s).useCounts = s.useCounts := by
  cases a <;> simp only [placeAnswer] <;> (try split) <;> rfl
@[simp] theorem placeAnswer_selected (r : Request) (a : Answer) (s : State) : (placeAnswer r a s).selected = s.selected := by
  cases a <;> simp only [placeAnswer] <;> (try split) <;> rfl
@[simp] theorem placeAnswer_trace (r : Request) (a : Answer) (s : State) : (placeAnswer r a s).trace = s.trace := by
  cases a <;> simp only [placeAnswer] <;> (try split) <;> rfl
@[simp] theorem placeAnswer_notify (r : Request) (a : Answer) (s : State) : (placeAnswer r a s).notify = s.notify := by
  cases a <;> simp only [placeAnswer] <;> (try split) <;> rfl
@[simp] theorem placeAnswer_holdLevel (r : Request) (a : Answer) (s : State) : (placeAnswer r a s).holdLevel = s.holdLevel := by
  cases a <;> simp only [placeAnswer] <;> (try split) <;> rfl
@[simp] theorem placeAnswer_cardsDropped (r : Request) (a : Answer) (s : State) : (placeAnswer r a s).cardsDropped = s.cardsDropped := by
  cases a <;> simp only [placeAnswer] <;> (try split) <;> rfl
@[simp] theorem placeAnswer_cardsRead (r : Request) (a : Answer) (s : State) : (placeAnswer r a s).cardsRead = s.cardsRead := by
  cases a <;> simp only [placeAnswer] <;> (try split) <;> rfl
@[simp] theorem placeAnswer_goodLost (r : Request) (a : Answer) (s : State) : (placeAnswer r a s).goodLost = s.goodLost := by
  cases a <;> simp only [placeAnswer] <;> (try split) <;> rfl
@[simp] theorem placeAnswer_goodUnconfirmed (r : Request) (a : Answer) (s : State) : (placeAnswer r a s).goodUnconfirmed = s.goodUnconfirmed := by
  cases a <;> simp only [placeAnswer] <;> (try split) <;> rfl
@[simp] theorem placeAnswer_fault (r : Request) (a : Answer) (s : State) : (placeAnswer r a s).fault = s.fault := by
  cases a <;> simp only [placeAnswer] <;> (try split) <;> rfl
@[simp] theorem placeAnswer_arbiter (r : Request) (a : Answer) (s : State) : (placeAnswer r a s).arbiter = s.arbiter := by
  cases a <;> simp only [placeAnswer] <;> (try split) <;> rfl
@[simp] theorem placeAnswer_phase (r : Request) (a : Answer) (s : State) : (placeAnswer r a s).phase = s.phase := by
  cases a <;> simp only [placeAnswer] <;> (try split) <;> rfl
@[simp] theorem placeAnswer_engine (r : Request) (a : Answer) (s : State) : (placeAnswer r a s).engine = s.engine := by
  cases a <;> simp only [placeAnswer] <;> (try split) <;> rfl
@[simp] theorem placeAnswer_load (r : Request) (a : Answer) (s : State) : (placeAnswer r a s).load = s.load := by
  cases a <;> simp only [placeAnswer] <;> (try split) <;> rfl
@[simp] theorem placeAnswer_loadAddr (r : Request) (a : Answer) (s : State) : (placeAnswer r a s).loadAddr = s.loadAddr := by
  cases a <;> simp only [placeAnswer] <;> (try split) <;> rfl
@[simp] theorem placeAnswer_loadSelected (r : Request) (a : Answer) (s : State) : (placeAnswer r a s).loadSelected = s.loadSelected := by
  cases a <;> simp only [placeAnswer] <;> (try split) <;> rfl
@[simp] theorem placeAnswer_freeCount (r : Request) (a : Answer) (s : State) : (placeAnswer r a s).freeCount = s.freeCount := by
  cases a <;> simp only [placeAnswer] <;> (try split) <;> rfl

/-! ### offerBrief -/

@[simp] theorem offerBrief_pending (p : Port) (b : Brief) (s : State) : (offerBrief p b s).2.pending = s.pending := by
  unfold offerBrief; split <;> rfl
@[simp] theorem offerBrief_resetHeld (p : Port) (b : Brief) (s : State) : (offerBrief p b s).2.resetHeld = s.resetHeld := by
  unfold offerBrief; split <;> rfl
@[simp] theorem offerBrief_line (p : Port) (b : Brief) (s : State) : (offerBrief p b s).2.line = s.line := by
  unfold offerBrief; split <;> rfl
@[simp] theorem offerBrief_rows (p : Port) (b : Brief) (s : State) : (offerBrief p b s).2.rows = s.rows := by
  unfold offerBrief; split <;> rfl
@[simp] theorem offerBrief_exitOffset (p : Port) (b : Brief) (s : State) : (offerBrief p b s).2.exitOffset = s.exitOffset := by
  unfold offerBrief; split <;> rfl
@[simp] theorem offerBrief_sealOffset (p : Port) (b : Brief) (s : State) : (offerBrief p b s).2.sealOffset = s.sealOffset := by
  unfold offerBrief; split <;> rfl
@[simp] theorem offerBrief_indexCount (p : Port) (b : Brief) (s : State) : (offerBrief p b s).2.indexCount = s.indexCount := by
  unfold offerBrief; split <;> rfl
@[simp] theorem offerBrief_lastIndex (p : Port) (b : Brief) (s : State) : (offerBrief p b s).2.lastIndex = s.lastIndex := by
  unfold offerBrief; split <;> rfl
@[simp] theorem offerBrief_advancesDue (p : Port) (b : Brief) (s : State) : (offerBrief p b s).2.advancesDue = s.advancesDue := by
  unfold offerBrief; split <;> rfl
@[simp] theorem offerBrief_timeTag (p : Port) (b : Brief) (s : State) : (offerBrief p b s).2.timeTag = s.timeTag := by
  unfold offerBrief; split <;> rfl
@[simp] theorem offerBrief_interval (p : Port) (b : Brief) (s : State) : (offerBrief p b s).2.interval = s.interval := by
  unfold offerBrief; split <;> rfl
@[simp] theorem offerBrief_sinceLast (p : Port) (b : Brief) (s : State) : (offerBrief p b s).2.sinceLast = s.sinceLast := by
  unfold offerBrief; split <;> rfl
@[simp] theorem offerBrief_cardsFormed (p : Port) (b : Brief) (s : State) : (offerBrief p b s).2.cardsFormed = s.cardsFormed := by
  unfold offerBrief; split <;> rfl
@[simp] theorem offerBrief_cardsPurged (p : Port) (b : Brief) (s : State) : (offerBrief p b s).2.cardsPurged = s.cardsPurged := by
  unfold offerBrief; split <;> rfl
@[simp] theorem offerBrief_indexGlitches (p : Port) (b : Brief) (s : State) : (offerBrief p b s).2.indexGlitches = s.indexGlitches := by
  unfold offerBrief; split <;> rfl
@[simp] theorem offerBrief_stations (p : Port) (b : Brief) (s : State) : (offerBrief p b s).2.stations = s.stations := by
  unfold offerBrief; split <;> rfl
@[simp] theorem offerBrief_recipes (p : Port) (b : Brief) (s : State) : (offerBrief p b s).2.recipes = s.recipes := by
  unfold offerBrief; split <;> rfl
@[simp] theorem offerBrief_useCounts (p : Port) (b : Brief) (s : State) : (offerBrief p b s).2.useCounts = s.useCounts := by
  unfold offerBrief; split <;> rfl
@[simp] theorem offerBrief_selected (p : Port) (b : Brief) (s : State) : (offerBrief p b s).2.selected = s.selected := by
  unfold offerBrief; split <;> rfl
@[simp] theorem offerBrief_trace (p : Port) (b : Brief) (s : State) : (offerBrief p b s).2.trace = s.trace := by
  unfold offerBrief; split <;> rfl
@[simp] theorem offerBrief_notify (p : Port) (b : Brief) (s : State) : (offerBrief p b s).2.notify = s.notify := by
  unfold offerBrief; split <;> rfl
@[simp] theorem offerBrief_holdLevel (p : Port) (b : Brief) (s : State) : (offerBrief p b s).2.holdLevel = s.holdLevel := by
  unfold offerBrief; split <;> rfl
@[simp] theorem offerBrief_cardsDropped (p : Port) (b : Brief) (s : State) : (offerBrief p b s).2.cardsDropped = s.cardsDropped := by
  unfold offerBrief; split <;> rfl
@[simp] theorem offerBrief_cardsRead (p : Port) (b : Brief) (s : State) : (offerBrief p b s).2.cardsRead = s.cardsRead := by
  unfold offerBrief; split <;> rfl
@[simp] theorem offerBrief_goodLost (p : Port) (b : Brief) (s : State) : (offerBrief p b s).2.goodLost = s.goodLost := by
  unfold offerBrief; split <;> rfl
@[simp] theorem offerBrief_goodUnconfirmed (p : Port) (b : Brief) (s : State) : (offerBrief p b s).2.goodUnconfirmed = s.goodUnconfirmed := by
  unfold offerBrief; split <;> rfl
@[simp] theorem offerBrief_fault (p : Port) (b : Brief) (s : State) : (offerBrief p b s).2.fault = s.fault := by
  unfold offerBrief; split <;> rfl
@[simp] theorem offerBrief_arbiter (p : Port) (b : Brief) (s : State) : (offerBrief p b s).2.arbiter = s.arbiter := by
  unfold offerBrief; split <;> rfl
@[simp] theorem offerBrief_phase (p : Port) (b : Brief) (s : State) : (offerBrief p b s).2.phase = s.phase := by
  unfold offerBrief; split <;> rfl
@[simp] theorem offerBrief_engine (p : Port) (b : Brief) (s : State) : (offerBrief p b s).2.engine = s.engine := by
  unfold offerBrief; split <;> rfl
@[simp] theorem offerBrief_load (p : Port) (b : Brief) (s : State) : (offerBrief p b s).2.load = s.load := by
  unfold offerBrief; split <;> rfl
@[simp] theorem offerBrief_loadAddr (p : Port) (b : Brief) (s : State) : (offerBrief p b s).2.loadAddr = s.loadAddr := by
  unfold offerBrief; split <;> rfl
@[simp] theorem offerBrief_loadSelected (p : Port) (b : Brief) (s : State) : (offerBrief p b s).2.loadSelected = s.loadSelected := by
  unfold offerBrief; split <;> rfl
@[simp] theorem offerBrief_freeCount (p : Port) (b : Brief) (s : State) : (offerBrief p b s).2.freeCount = s.freeCount := by
  unfold offerBrief; split <;> rfl

end Sys2Proof.Machine
end

