-- ==== Sys2Proof/Laws/Ops.lean ====
section
/-! SUPPORT. One lemma for each shared operation of Machine/Ops.lean and Machine/Reports.lean, saying everything the
operation can do; later proofs cite it and do not unfold the operation. -/

namespace Sys2Proof.Machine

/-! ### Ports and tables after an update -/

@[simp] theorem State.port_setPort_same (s : State) (p : Port) (b : PortBlock) : (s.setPort p b).port p = b :=
  PerPort.get_set_same _ _ _

theorem State.port_setPort (s : State) (p q : Port) (b : PortBlock) :
    (s.setPort p b).port q = if q = p then b else s.port q :=
  PerPort.get_set _ _ _ _

theorem State.port_onPort (s : State) (p q : Port) (f : PortBlock → PortBlock) :
    (s.onPort p f).port q = if q = p then f (s.port p) else s.port q :=
  PerPort.get_set _ _ _ _

@[simp] theorem State.port_onPort_same (s : State) (p : Port) (f : PortBlock → PortBlock) :
    (s.onPort p f).port p = f (s.port p) :=
  PerPort.get_set_same _ _ _

theorem State.port_onPort_of_ne (s : State) {p q : Port} (f : PortBlock → PortBlock) (h : q ≠ p) :
    (s.onPort p f).port q = s.port q :=
  PerPort.get_set_of_ne _ _ h

@[simp] theorem State.port_onPorts (s : State) (f : Port → PortBlock → PortBlock) (p : Port) :
    (s.onPorts f).port p = f p (s.port p) :=
  PerPort.get_ofFn _ _

@[simp] theorem port_latchOn (choose : Port → Bool) (e : Event) (s : State) (p : Port) :
    (latchOn choose e s).port p = if choose p then latch e (s.port p) else s.port p :=
  PerPort.get_ofFn _ _

@[simp] theorem port_announce (before after : State) (p : Port) :
    (announce before after).port p
      = if before.masked p = 0 ∧ after.masked p ≠ 0 then (after.port p).offerAttention else after.port p :=
  PerPort.get_ofFn _ _

theorem port_raise (choose : Port → Bool) (e : Event) (s : State) (p : Port) :
    (raise choose e s).port p
      = if s.masked p = 0 ∧ (latchOn choose e s).masked p ≠ 0 then ((latchOn choose e s).port p).offerAttention
        else (latchOn choose e s).port p :=
  port_announce _ _ _

theorem State.station_setStation (s : State) (p q : Port) (e : Station) :
    (s.setStation p e).station q = if q = p then e else s.station q :=
  PerPort.get_set _ _ _ _

theorem State.recipe_setRecipe (s : State) (id j : RecipeId) (r : Recipe) :
    (s.setRecipe id r).recipe j = if j = id then r else s.recipe j := by
  change (s.recipes.set id.val r id.isLt)[j.val] = if j = id then r else s.recipes[j.val]
  rw [Vector.getElem_set]
  exact if_congr (by rw [eq_comm, Fin.ext_iff]) rfl rfl

theorem State.useCount_setUseCount (s : State) (id j : RecipeId) (n : Nat) :
    (s.setUseCount id n).useCount j = if j = id then n else s.useCount j := by
  change (s.useCounts.set id.val n id.isLt)[j.val] = if j = id then n else s.useCounts[j.val]
  rw [Vector.getElem_set]
  exact if_congr (by rw [eq_comm, Fin.ext_iff]) rfl rfl

/-- The state conditions read the trace queue, its levels and the latch, and nothing else (R158). -/
theorem State.conditions_congr {s t : State} (h1 : t.trace = s.trace) (h2 : t.notify = s.notify)
    (h3 : t.holdLevel = s.holdLevel) (h4 : t.fault = s.fault) : t.conditions = s.conditions := by
  simp only [State.conditions, State.traceReady, State.hold, State.holdCondition, State.traceFree, h1, h2, h3, h4]
  rfl

/-! ### Offers to an outbound queue -/

/-- An ATTENTION offered changes the queue or the mark and nothing else (R149). -/
theorem PortBlock.offerAttention_eq (b : PortBlock) :
    b.offerAttention = b ∨ b.offerAttention = b.place .attention ∧ b.hasFree = true
      ∨ b.offerAttention = { b with attnPending := true } ∧ b.hasFree = false := by
  unfold PortBlock.offerAttention
  split
  · exact .inl rfl
  · split
    · next h => exact .inr (.inl ⟨rfl, h⟩)
    · next h => exact .inr (.inr ⟨rfl, by simpa using h⟩)

/-- A CREDIT offered is placed in a free entry or changes nothing (R146, R148). -/
theorem PortBlock.offerCredit_eq (b : PortBlock) :
    b.offerCredit = b ∨ b.offerCredit = b.place .credit ∧ b.hasFree = true := by
  unfold PortBlock.offerCredit
  split
  · exact .inl rfl
  · split
    · next h => exact .inr ⟨rfl, h⟩
    · exact .inl rfl

/-- A posted request's REFUSAL offered is placed in a free entry, or counted and latched (R148). -/
theorem PortBlock.offerRefusal_eq (b : PortBlock) (m : Message) :
    b.offerRefusal m = b.place m ∧ b.hasFree = true
      ∨ b.offerRefusal m = latch .refusalLost { b with refusalLost := b.refusalLost + 1 } ∧ b.hasFree = false := by
  unfold PortBlock.offerRefusal
  split
  · next h => exact .inl ⟨rfl, h⟩
  · next h => exact .inr ⟨rfl, by simpa using h⟩

theorem PortBlock.hasFree_iff (b : PortBlock) :
    b.hasFree = true ↔ b.outbound.length + b.reserved < Config.outboundSize := by
  simp [PortBlock.hasFree]

@[simp] theorem PortBlock.offerAttention_inbound (b : PortBlock) : b.offerAttention.inbound = b.inbound := by
  obtain h | ⟨h, -⟩ | ⟨h, -⟩ := b.offerAttention_eq <;> simp [h, PortBlock.place]

@[simp] theorem PortBlock.offerAttention_reserved (b : PortBlock) : b.offerAttention.reserved = b.reserved := by
  obtain h | ⟨h, -⟩ | ⟨h, -⟩ := b.offerAttention_eq <;> simp [h, PortBlock.place]

@[simp] theorem PortBlock.offerAttention_latched (b : PortBlock) : b.offerAttention.latched = b.latched := by
  obtain h | ⟨h, -⟩ | ⟨h, -⟩ := b.offerAttention_eq <;> simp [h, PortBlock.place]

@[simp] theorem PortBlock.offerAttention_enables (b : PortBlock) : b.offerAttention.enables = b.enables := by
  obtain h | ⟨h, -⟩ | ⟨h, -⟩ := b.offerAttention_eq <;> simp [h, PortBlock.place]

@[simp] theorem PortBlock.offerAttention_link (b : PortBlock) : b.offerAttention.link = b.link := by
  obtain h | ⟨h, -⟩ | ⟨h, -⟩ := b.offerAttention_eq <;> simp [h, PortBlock.place]

/-- An ATTENTION never takes a queue beyond its size. -/
theorem PortBlock.offerAttention_bounded (b : PortBlock)
    (h : b.outbound.length + b.reserved ≤ Config.outboundSize) :
    b.offerAttention.outbound.length + b.offerAttention.reserved ≤ Config.outboundSize := by
  obtain e | ⟨e, f⟩ | ⟨e, -⟩ := b.offerAttention_eq <;> rw [e]
  · exact h
  · rw [b.hasFree_iff] at f
    simp only [PortBlock.place, List.length_append, List.length_cons, List.length_nil]
    omega
  · exact h

@[simp] theorem PortBlock.offerCredit_inbound (b : PortBlock) : b.offerCredit.inbound = b.inbound := by
  obtain h | ⟨h, -⟩ := b.offerCredit_eq <;> simp [h, PortBlock.place]

@[simp] theorem PortBlock.offerCredit_reserved (b : PortBlock) : b.offerCredit.reserved = b.reserved := by
  obtain h | ⟨h, -⟩ := b.offerCredit_eq <;> simp [h, PortBlock.place]

/-- A CREDIT offered adds at most itself. -/
theorem PortBlock.mem_offerCredit {b : PortBlock} {m : Message} (h : m ∈ b.offerCredit.outbound) :
    m ∈ b.outbound ∨ m = .credit := by
  obtain e | ⟨e, -⟩ := b.offerCredit_eq <;> rw [e] at h
  · exact .inl h
  · simpa [PortBlock.place] using h

/-- A CREDIT never takes a queue beyond its size. -/
theorem PortBlock.offerCredit_bounded (b : PortBlock)
    (h : b.outbound.length + b.reserved ≤ Config.outboundSize) :
    b.offerCredit.outbound.length + b.offerCredit.reserved ≤ Config.outboundSize := by
  obtain e | ⟨e, f⟩ := b.offerCredit_eq <;> rw [e]
  · exact h
  · rw [b.hasFree_iff] at f
    simp only [PortBlock.place, List.length_append, List.length_cons, List.length_nil]
    omega

/-- A CREDIT offered leaves a full queue full. -/
theorem PortBlock.offerCredit_full {b : PortBlock} (h : b.hasFree = false) : b.offerCredit = b := by
  obtain e | ⟨-, f⟩ := b.offerCredit_eq
  · exact e
  · rw [h] at f; cases f

/-- A brief offered is placed, or counted and raised on its port (R148, R154). -/
theorem offerBrief_eq (p : Port) (b : Brief) (s : State) :
    (s.port p).hasFree = true ∧ offerBrief p b s = (true, s.onPort p (·.place (.brief b)))
      ∨ (s.port p).hasFree = false ∧ offerBrief p b s
        = (false, announce s (s.onPort p fun x => latch .briefLost { x with briefLost := x.briefLost + 1 })) := by
  unfold offerBrief
  split
  · next h => exact .inl ⟨h, rfl⟩
  · next h => exact .inr ⟨by simpa using h, rfl⟩

/-! ### The request engine -/

/-- The arbiter leaves a state, or grants a free engine one request of a port (R151). -/
theorem grantNext_eq (s : State) :
    grantNext s = s
      ∨ ∃ i p q rest, s.engine = none ∧ p = s.arbiter.get i ∧ eligible (s.port p) = some (q, rest)
        ∧ grantNext s = { s.onPort p (grantedBlock q rest) with
          engine := some ⟨p, q.tag, q.body⟩, phase := nextPhase i } := by
  unfold grantNext
  split
  · next he =>
    split
    · next i p q rest h =>
      obtain ⟨j, -, h⟩ := List.exists_of_findSome?_eq_some h
      obtain ⟨x, hx, h⟩ := Option.map_eq_some_iff.mp h
      cases h
      exact .inr ⟨_, _, _, _, he, rfl, hx, rfl⟩
    · exact .inl rfl
  · exact .inl rfl

/-- Link up offers a CREDIT on a DOWN link, and only restarts the 10 ms of an UP one (R142, R146). -/
theorem linkUp_eq (b : PortBlock) :
    b.link = .down ∧ linkUp b = PortBlock.offerCredit { b with link := .up, quiet := 0 }
      ∨ b.link = .up ∧ linkUp b = { b with quiet := 0 } := by
  unfold linkUp heard
  cases b.link <;> simp

@[simp] theorem linkUp_inbound (b : PortBlock) : (linkUp b).inbound = b.inbound := by
  obtain ⟨-, h⟩ | ⟨-, h⟩ := linkUp_eq b <;> simp [h]

@[simp] theorem linkUp_reserved (b : PortBlock) : (linkUp b).reserved = b.reserved := by
  obtain ⟨-, h⟩ | ⟨-, h⟩ := linkUp_eq b <;> simp [h]

/-- A grant takes its request from the inbound queue, reserves an entry for a non-posted one, and may offer a CREDIT
(R145 to R147). -/
theorem grantedBlock_eq (r : InReq) (rest : List InReq) (b : PortBlock) :
    ∃ c : PortBlock, c = { b with inbound := rest, reserved := if r.body.posted then b.reserved else b.reserved + 1 }
      ∧ (grantedBlock r rest b = c ∨ grantedBlock r rest b = c.offerCredit) := by
  refine ⟨_, rfl, ?_⟩
  unfold grantedBlock creditAtGrant
  cases r.body.posted <;> simp only [Bool.false_eq_true, if_false, if_true, PortBlock.reserve] <;> split <;> simp

/-- An eligible request stands in its port's inbound queue; the rest is the queue without it; a non-posted one is granted
only as the oldest, with a free outbound entry (R150). -/
theorem eligible_eq_some {b : PortBlock} {r : InReq} {rest : List InReq} (h : eligible b = some (r, rest)) :
    ∃ l m, b.inbound = l ++ r :: m ∧ rest = l ++ m ∧ (∀ x ∈ l, x.body.posted = false)
      ∧ (b.hasFree = true ∧ l = [] ∨ b.hasFree = false ∧ r.body.posted = true) := by
  unfold eligible at h
  split at h
  · next hf =>
    unfold takeOldest at h
    split at h
    · cases h
    · next hq =>
      cases h
      exact ⟨[], _, hq, rfl, by simp, .inl ⟨hf, rfl⟩⟩
  · next hf =>
    suffices H : ∀ q : List InReq, takePosted q = some (r, rest) →
        ∃ l m, q = l ++ r :: m ∧ rest = l ++ m ∧ (∀ x ∈ l, x.body.posted = false) ∧ r.body.posted = true by
      obtain ⟨l, m, h1, h2, h3, h4⟩ := H _ h
      exact ⟨l, m, h1, h2, h3, .inr ⟨by simpa using hf, h4⟩⟩
    clear h
    intro q h
    induction q generalizing rest with
    | nil => cases h
    | cons x q ih =>
      unfold takePosted at h
      split at h
      · next hx =>
        cases h
        exact ⟨[], _, rfl, rfl, by simp, hx⟩
      · next hx =>
        obtain ⟨y, hy, h⟩ := Option.map_eq_some_iff.mp h
        cases h
        obtain ⟨l, m, h1, h2, h3, h4⟩ := ih hy
        exact ⟨x :: l, m, by rw [h1]; rfl, by simp [h2], by simpa [hx] using h3, h4⟩

@[simp] theorem brought_held {r : Request} {s : State} (h : s.engine = some r) : brought r s = s := by
  simp [brought, h]

/-- A request's arrival changes the ports and nothing else (R142, R145). -/
theorem receiveRequest_eq (p : Port) (r : InReq) (s : State) :
    ∃ v, receiveRequest p r s = { s with ports := v } := by
  unfold receiveRequest enqueue
  split <;> exact ⟨_, rfl⟩

/-- Bringing a request to the engine changes the ports, the engine and the phase pointer, and nothing else (R145, R151). -/
theorem brought_eq (r : Request) (s : State) :
    ∃ v e i, brought r s = { s with ports := v, engine := e, phase := i } := by
  unfold brought
  split
  · exact ⟨_, _, _, rfl⟩
  · obtain ⟨v, hv⟩ : ∃ v, arrived r s = { s with ports := v } := by
      unfold arrived
      split
      · exact ⟨_, rfl⟩
      · exact receiveRequest_eq _ _ _
    rw [hv]
    obtain h | ⟨i, p, q, rest, -, -, -, h⟩ := grantNext_eq { s with ports := v } <;> rw [h]
    · exact ⟨_, _, _, rfl⟩
    · exact ⟨_, _, _, rfl⟩

/-- A request command always answers next: nothing while RESET_N is low, else the request brought to the engine and, when
it is granted, applied (R153, log entry 2). -/
theorem serve_eq (r : Request) (app : State → State × Answer) (s : State) :
    s.resetHeld = true ∧ serve r app s = .next s
      ∨ s.resetHeld = false ∧ (brought r s).engine ≠ some r ∧ serve r app s = .next (brought r s)
      ∨ s.resetHeld = false ∧ (brought r s).engine = some r
        ∧ serve r app s = .next (applyHeld r app (brought r s)) := by
  unfold serve
  split
  · next h => exact .inl ⟨h, rfl⟩
  · next h =>
    split
    · next he => exact .inr (.inr ⟨by simpa using h, he, rfl⟩)
    · next he => exact .inr (.inl ⟨by simpa using h, he, rfl⟩)

/-- A request in service is applied, and its application ends as `finished` says (R148, R153). -/
theorem serve_inService {r : Request} {s : State} (h : InService r s) (app : State → State × Answer) :
    serve r app s = .next (finished r (app s).2 s (app s).1) := by
  obtain ⟨h1, h2, h3⟩ := h
  simp [serve, applyHeld, finished, h1, h2, h3]

/-- A request the engine holds during autoload is refused NOT_READY (R166). -/
theorem serve_loading {r : Request} {s : State} (h1 : s.resetHeld = false) (h2 : s.load = .loading)
    (h3 : s.engine = some r) (app : State → State × Answer) :
    serve r app s = .next (refused r .notReady 0 s) := by
  simp [serve, applyHeld, refused, finished, h1, h2, h3]

/-- A request command whose request the engine does not hold is the same command on the state to which the arbiter has
brought it, or that state itself (log entry 2). -/
theorem serve_brought {r : Request} {s : State} (h : s.resetHeld = false) (hb : (brought r s).resetHeld = false)
    (app : State → State × Answer) :
    serve r app s
      = if (brought r s).engine = some r then serve r app (brought r s) else .next (brought r s) := by
  by_cases he : (brought r s).engine = some r
  · rw [if_pos he]
    simp [serve, h, hb, he]
  · rw [if_neg he]
    simp [serve, h, he]

/-- An application whose sender holds the permission runs; else it is refused FORBIDDEN (R155). -/
theorem withPermission_of {has : Perms → Bool} {p : Port} {s : State} (h : has (s.station p).perms = true)
    (app : State → State × Answer) : withPermission has p app s = app s := by
  simp [withPermission, h]

theorem withPermission_lacking {has : Perms → Bool} {p : Port} {s : State} (h : has (s.station p).perms = false)
    (app : State → State × Answer) : withPermission has p app s = (s, .refusal .forbidden 0) := by
  simp [withPermission, h]

/-- A report is refused and changes nothing, or passes all its checks and changes the cards it names (R34, R66). -/
theorem takeReport_eq (permitted : Role → Bool) (p : Port) (number : Word) (lane : Octet)
    (check : Row → Recipe → Card → Option Code) (app : State → Row → Recipe → Card → Card) (s : State) :
    (∃ code detail, takeReport permitted p number lane check app s = (s, .refusal code detail))
      ∨ ∃ row l c, screenReport permitted p number s = .ok row ∧ laneIn row lane = some l ∧ row.card l = some c
        ∧ check row (s.recipe row.recipe) c = none
        ∧ takeReport permitted p number lane check app s
          = ({ s with rows := updateCard number l (fun c => app s row (s.recipe row.recipe) (joinReported p c)) s.rows },
              .nothing) := by
  unfold takeReport
  split
  · exact .inl ⟨_, _, rfl⟩
  · next row hrow =>
    split
    · exact .inl ⟨_, _, rfl⟩
    · next l hl =>
      split
      · exact .inl ⟨_, _, rfl⟩
      · next c hc =>
        split
        · exact .inl ⟨_, _, rfl⟩
        · next hk => exact .inr ⟨row, l, c, hrow, hl, hc, hk, rfl⟩

/-- A report that passes checks 1 to 4 names a row on the map inside the station's window (R34, R35). -/
theorem screenReport_ok {permitted : Role → Bool} {p : Port} {number : Word} {s : State} {row : Row}
    (h : screenReport permitted p number s = .ok row) :
    permitted (s.station p).role = true ∧ (s.station p).mode ≠ .offline ∧ s.findRow number = some row
      ∧ (s.station p).offset ≤ row.offset ∧ row.offset < (s.station p).offset + (s.station p).window := by
  unfold screenReport at h
  simp only at h
  split at h
  · cases h
  · next h1 =>
    split at h
    · cases h
    · next h2 =>
      split at h
      · cases h
      · next r hr =>
        split at h
        · cases h
        · next h3 =>
          split at h
          · cases h
          · next h4 =>
            cases h
            exact ⟨by simpa using h1, h2, hr, by omega, by omega⟩

/-- Changing one card of a row changes no row's number, offset, recipe, lanes or number of cards. -/
theorem updateCard_map {β : Type} (g : Row → β) (number : Word) (lane : Fin 4) (f : Card → Card) (rows : List Row)
    (h : ∀ (r : Row) cards, cards.length = r.cards.length → g { r with cards := cards } = g r) :
    (updateCard number lane f rows).map g = rows.map g := by
  simp only [updateCard, List.map_map]
  apply List.map_congr_left
  intro r _
  simp only [Function.comp]
  split
  · exact h r _ (by simp)
  · rfl

/-! ### The check -/

/-- One bit of the check is linear in exclusive-or. -/
theorem crcBit_xor (a b : Half) : crcBit (a ^^^ b) = crcBit a ^^^ crcBit b := by
  have h : (a ^^^ b).msb = (a.msb ^^ b.msb) := by simp [BitVec.msb_eq_getLsbD_last]
  unfold crcBit
  rw [h]
  cases a.msb <;> cases b.msb <;> simp only [BitVec.shiftLeft_xor_distrib, Bool.xor_false, Bool.xor_true, Bool.not_false,
    Bool.not_true, if_true, if_false, Bool.false_eq_true]
  · ac_rfl
  · ac_rfl
  · generalize (0x1021 : Half) = g
    rw [show a <<< 1 ^^^ g ^^^ (b <<< 1 ^^^ g) = (a <<< 1 ^^^ b <<< 1) ^^^ (g ^^^ g) by ac_rfl, BitVec.xor_self, BitVec.xor_zero]

/-! ### Octets as sent -/

@[simp] theorem length_settle (free : Nat → Octet) (k : Nat) (l : List OutOctet) :
    (settle free k l).length = l.length := by
  induction l generalizing k with
  | nil => rfl
  | cons o l ih => simp [settle, ih]

/-- Every octet of a layout is sent with its named bits as the layout gives them (log entry 7). -/
theorem getElem?_settle {free : Nat → Octet} {k i : Nat} {l : List OutOctet} {o : OutOctet} (h : l[i]? = some o) :
    ∃ x, (settle free k l)[i]? = some x ∧ x &&& ~~~o.unnamed = o.value &&& ~~~o.unnamed := by
  induction l generalizing k i with
  | nil => simp at h
  | cons a l ih =>
    cases i with
    | zero =>
      obtain rfl : a = o := by simpa using h
      refine ⟨_, rfl, ?_⟩
      split
      · rfl
      · ext j hj
        simp only [BitVec.getElem_and, BitVec.getElem_or, BitVec.getElem_not]
        cases a.value[j] <;> cases a.unnamed[j] <;> simp
    | succ i => exact ih (by simpa using h)

end Sys2Proof.Machine
end

