-- ==== Sys2Proof/Laws/Cards.lean ====
section
/-! SUPPORT. Laws of the work on cards and cavities (Machine/Cards.lean): the list walks read by index, the fields a
condemnation and the other card operations leave alone, and the limits of the counts and doses. -/

namespace Sys2Proof.Machine

/-! ### Walks over cavities, by index -/

theorem getElem?_mapSpec (f : CavitySpec → Cavity → Cavity) (a : List CavitySpec) (b : List Cavity) (i : Nat) :
    (mapSpec f a b)[i]? = match a[i]?, b[i]? with
      | some spec, some cav => some (f spec cav)
      | _, x => x := by
  induction a generalizing b i with
  | nil => cases b <;> simp [mapSpec]
  | cons s ss ih =>
    cases b with
    | nil => cases i <;> simp [mapSpec]
    | cons c cs => cases i <;> simp [mapSpec, ih]

@[simp] theorem length_mapSpec (f : CavitySpec → Cavity → Cavity) (a : List CavitySpec) (b : List Cavity) :
    (mapSpec f a b).length = b.length := by
  induction a generalizing b with
  | nil => simp [mapSpec]
  | cons s ss ih => cases b <;> simp [mapSpec, ih]

theorem getElem?_mapFrom {α : Type} (f : Nat → α → α) (k : Nat) (l : List α) (i : Nat) :
    (mapFrom f k l)[i]? = (l[i]?).map (f (k + i)) := by
  induction l generalizing k i with
  | nil => simp [mapFrom]
  | cons x xs ih =>
    cases i with
    | zero => simp [mapFrom]
    | succ i => simp [mapFrom, ih, Nat.add_assoc, Nat.add_comm 1 i]

@[simp] theorem length_mapFrom {α : Type} (f : Nat → α → α) (k : Nat) (l : List α) :
    (mapFrom f k l).length = l.length := by
  induction l generalizing k with
  | nil => simp [mapFrom]
  | cons x xs ih => simp [mapFrom, ih]

theorem anySpec_iff (f : CavitySpec → Cavity → Bool) (a : List CavitySpec) (b : List Cavity) :
    anySpec f a b = true ↔
      ∃ (i : Nat) (spec : CavitySpec) (cav : Cavity), a[i]? = some spec ∧ b[i]? = some cav ∧ f spec cav = true := by
  induction a generalizing b with
  | nil => simp [anySpec]
  | cons x a ih =>
    cases b with
    | nil => simp [anySpec]
    | cons y b =>
      simp only [anySpec, Bool.or_eq_true, ih]
      constructor
      · rintro (h | ⟨i, spec, cav, h1, h2, h3⟩)
        · exact ⟨0, x, y, rfl, rfl, h⟩
        · exact ⟨i + 1, spec, cav, by simpa using h1, by simpa using h2, h3⟩
      · rintro ⟨i, spec, cav, h1, h2, h3⟩
        cases i with
        | zero =>
          simp only [List.getElem?_cons_zero, Option.some.injEq] at h1 h2
          subst h1 h2
          exact .inl h3
        | succ i => exact .inr ⟨i, spec, cav, by simpa using h1, by simpa using h2, h3⟩

theorem getElem?_setForms (l : List FormOutcome) (b : List Cavity) (i : Nat) :
    (setForms l b)[i]? = match l[i]?, b[i]? with
      | some x, some cav => some { cav with form := some x }
      | _, y => y := by
  induction l generalizing b i with
  | nil => cases b <;> simp [setForms]
  | cons s ss ih =>
    cases b with
    | nil => cases i <;> simp [setForms]
    | cons c cs => cases i <;> simp [setForms, ih]

@[simp] theorem length_setForms (l : List FormOutcome) (b : List Cavity) : (setForms l b).length = b.length := by
  induction l generalizing b with
  | nil => simp [setForms]
  | cons s ss ih => cases b <;> simp [setForms, ih]

/-! ### Condemnation -/

/-- A condemnation sets the three fields together, or nothing (R115). -/
theorem Card.condemn_eq (c : Card) (reason : Reason) (station : Option Port) (o : Nat) :
    c.reason = none ∧ c.state ≠ .frozen ∧ c.condemn reason station o
        = { c with reason := some reason, station := station, condemnOffset := some o }
      ∨ (c.reason ≠ none ∨ c.state = .frozen) ∧ c.condemn reason station o = c := by
  unfold Card.condemn
  split
  · next h => exact .inl ⟨h.1, h.2, rfl⟩
  · next h => exact .inr ⟨by tauto, rfl⟩

@[simp] theorem Card.condemn_lane (c : Card) (x : Reason) (p : Option Port) (o : Nat) :
    (c.condemn x p o).lane = c.lane := by unfold Card.condemn; split <;> rfl
@[simp] theorem Card.condemn_state (c : Card) (x : Reason) (p : Option Port) (o : Nat) :
    (c.condemn x p o).state = c.state := by unfold Card.condemn; split <;> rfl
@[simp] theorem Card.condemn_summary (c : Card) (x : Reason) (p : Option Port) (o : Nat) :
    (c.condemn x p o).summary = c.summary := by unfold Card.condemn; split <;> rfl
@[simp] theorem Card.condemn_tallies (c : Card) (x : Reason) (p : Option Port) (o : Nat) :
    (c.condemn x p o).tallies = c.tallies := by unfold Card.condemn; split <;> rfl
@[simp] theorem Card.condemn_verdict (c : Card) (x : Reason) (p : Option Port) (o : Nat) :
    (c.condemn x p o).verdict = c.verdict := by unfold Card.condemn; split <;> rfl
@[simp] theorem Card.condemn_discharge (c : Card) (x : Reason) (p : Option Port) (o : Nat) :
    (c.condemn x p o).discharge = c.discharge := by unfold Card.condemn; split <;> rfl
@[simp] theorem Card.condemn_reported (c : Card) (x : Reason) (p : Option Port) (o : Nat) :
    (c.condemn x p o).reported = c.reported := by unfold Card.condemn; split <;> rfl
@[simp] theorem Card.condemn_cavities (c : Card) (x : Reason) (p : Option Port) (o : Nat) :
    (c.condemn x p o).cavities = c.cavities := by unfold Card.condemn; split <;> rfl

/-! ### Counts -/

/-- The effective count lies in 0 to 15 (R84). -/
theorem effectiveCount_le (stations : PerPort Station) (i : Option Inspection) (l : List Placement) :
    effectiveCount stations i l ≤ 15 := by
  unfold effectiveCount
  split <;> exact Nat.min_le_left ..

@[simp] theorem Cavity.recount_placements (stations : PerPort Station) (c : Cavity) :
    (c.recount stations).placements = c.placements := rfl
@[simp] theorem Cavity.recount_inspection (stations : PerPort Station) (c : Cavity) :
    (c.recount stations).inspection = c.inspection := rfl
@[simp] theorem Cavity.recount_attempts (stations : PerPort Station) (c : Cavity) :
    (c.recount stations).attempts = c.attempts := rfl

end Sys2Proof.Machine
end

