-- ==== Sys2Proof/Laws/Advance.lean ====
section
/-! SUPPORT. Laws of the advance (Machine/Advance.lean): what an arrival, a reconciliation, a retirement and the work of
one row leave alone, and what becomes of a row's own fields. -/

namespace Sys2Proof.Machine

/-! ### A row through its closes and arrivals -/

@[simp] theorem rowKey_cards (row : Row) (cards : List Card) : rowKey { row with cards := cards } = rowKey row := rfl

@[simp] theorem rowKey_closeRow (s : State) (row : Row) : rowKey (closeRow s row) = rowKey row := by
  unfold closeRow
  generalize Port.all = l
  induction l generalizing row with
  | nil => rfl
  | cons p l ih =>
    rw [List.foldl_cons, ih]
    split <;> rfl

theorem rowKey_arriveAt (p : Port) (row : Row) (s : State) : rowKey (arriveAt p row s).1 = rowKey row := by
  unfold arriveAt
  simp only
  split <;> (try rfl)
  split <;> split <;> rfl

/-- What every arrival at a station keeps, all the arrivals of a row keep. -/
theorem arriveRow_induction (P : Row × State → Prop) (row : Row) (s : State) (h0 : P (row, s))
    (hs : ∀ p x, P x → P (arriveAt p x.1 x.2)) : P (arriveRow row s) := by
  unfold arriveRow
  suffices h : ∀ (l : List Port) (x : Row × State), P x →
      P (l.foldl (fun x p => if (s.station p).offset = x.1.offset then arriveAt p x.1 x.2 else x) x) from h _ _ h0
  intro l
  induction l with
  | nil => exact fun _ h => h
  | cons p l ih =>
    intro x h
    rw [List.foldl_cons]
    apply ih
    split
    · exact hs p x h
    · exact h

@[simp] theorem rowKey_arriveRow (row : Row) (s : State) : rowKey (arriveRow row s).1 = rowKey row :=
  arriveRow_induction (fun x => rowKey x.1 = rowKey row) row s rfl fun p x h => by rw [rowKey_arriveAt, h]

/-! ### Arrivals -/

@[simp] theorem arriveAt_pending (p : Port) (row : Row) (s : State) : (arriveAt p row s).2.pending = s.pending := by
  unfold arriveAt; simp only; split <;> simp
@[simp] theorem arriveAt_resetHeld (p : Port) (row : Row) (s : State) : (arriveAt p row s).2.resetHeld = s.resetHeld := by
  unfold arriveAt; simp only; split <;> simp
@[simp] theorem arriveAt_line (p : Port) (row : Row) (s : State) : (arriveAt p row s).2.line = s.line := by
  unfold arriveAt; simp only; split <;> simp
@[simp] theorem arriveAt_rows (p : Port) (row : Row) (s : State) : (arriveAt p row s).2.rows = s.rows := by
  unfold arriveAt; simp only; split <;> simp
@[simp] theorem arriveAt_exitOffset (p : Port) (row : Row) (s : State) : (arriveAt p row s).2.exitOffset = s.exitOffset := by
  unfold arriveAt; simp only; split <;> simp
@[simp] theorem arriveAt_sealOffset (p : Port) (row : Row) (s : State) : (arriveAt p row s).2.sealOffset = s.sealOffset := by
  unfold arriveAt; simp only; split <;> simp
@[simp] theorem arriveAt_indexCount (p : Port) (row : Row) (s : State) : (arriveAt p row s).2.indexCount = s.indexCount := by
  unfold arriveAt; simp only; split <;> simp
@[simp] theorem arriveAt_lastIndex (p : Port) (row : Row) (s : State) : (arriveAt p row s).2.lastIndex = s.lastIndex := by
  unfold arriveAt; simp only; split <;> simp
@[simp] theorem arriveAt_advancesDue (p : Port) (row : Row) (s : State) : (arriveAt p row s).2.advancesDue = s.advancesDue := by
  unfold arriveAt; simp only; split <;> simp
@[simp] theorem arriveAt_timeTag (p : Port) (row : Row) (s : State) : (arriveAt p row s).2.timeTag = s.timeTag := by
  unfold arriveAt; simp only; split <;> simp
@[simp] theorem arriveAt_interval (p : Port) (row : Row) (s : State) : (arriveAt p row s).2.interval = s.interval := by
  unfold arriveAt; simp only; split <;> simp
@[simp] theorem arriveAt_sinceLast (p : Port) (row : Row) (s : State) : (arriveAt p row s).2.sinceLast = s.sinceLast := by
  unfold arriveAt; simp only; split <;> simp
@[simp] theorem arriveAt_cardsFormed (p : Port) (row : Row) (s : State) : (arriveAt p row s).2.cardsFormed = s.cardsFormed := by
  unfold arriveAt; simp only; split <;> simp
@[simp] theorem arriveAt_cardsPurged (p : Port) (row : Row) (s : State) : (arriveAt p row s).2.cardsPurged = s.cardsPurged := by
  unfold arriveAt; simp only; split <;> simp
@[simp] theorem arriveAt_indexGlitches (p : Port) (row : Row) (s : State) : (arriveAt p row s).2.indexGlitches = s.indexGlitches := by
  unfold arriveAt; simp only; split <;> simp
@[simp] theorem arriveAt_stations (p : Port) (row : Row) (s : State) : (arriveAt p row s).2.stations = s.stations := by
  unfold arriveAt; simp only; split <;> simp
@[simp] theorem arriveAt_recipes (p : Port) (row : Row) (s : State) : (arriveAt p row s).2.recipes = s.recipes := by
  unfold arriveAt; simp only; split <;> simp
@[simp] theorem arriveAt_useCounts (p : Port) (row : Row) (s : State) : (arriveAt p row s).2.useCounts = s.useCounts := by
  unfold arriveAt; simp only; split <;> simp
@[simp] theorem arriveAt_selected (p : Port) (row : Row) (s : State) : (arriveAt p row s).2.selected = s.selected := by
  unfold arriveAt; simp only; split <;> simp
@[simp] theorem arriveAt_trace (p : Port) (row : Row) (s : State) : (arriveAt p row s).2.trace = s.trace := by
  unfold arriveAt; simp only; split <;> simp
@[simp] theorem arriveAt_notify (p : Port) (row : Row) (s : State) : (arriveAt p row s).2.notify = s.notify := by
  unfold arriveAt; simp only; split <;> simp
@[simp] theorem arriveAt_holdLevel (p : Port) (row : Row) (s : State) : (arriveAt p row s).2.holdLevel = s.holdLevel := by
  unfold arriveAt; simp only; split <;> simp
@[simp] theorem arriveAt_cardsDropped (p : Port) (row : Row) (s : State) : (arriveAt p row s).2.cardsDropped = s.cardsDropped := by
  unfold arriveAt; simp only; split <;> simp
@[simp] theorem arriveAt_cardsRead (p : Port) (row : Row) (s : State) : (arriveAt p row s).2.cardsRead = s.cardsRead := by
  unfold arriveAt; simp only; split <;> simp
@[simp] theorem arriveAt_goodLost (p : Port) (row : Row) (s : State) : (arriveAt p row s).2.goodLost = s.goodLost := by
  unfold arriveAt; simp only; split <;> simp
@[simp] theorem arriveAt_goodUnconfirmed (p : Port) (row : Row) (s : State) : (arriveAt p row s).2.goodUnconfirmed = s.goodUnconfirmed := by
  unfold arriveAt; simp only; split <;> simp
@[simp] theorem arriveAt_fault (p : Port) (row : Row) (s : State) : (arriveAt p row s).2.fault = s.fault := by
  unfold arriveAt; simp only; split <;> simp
@[simp] theorem arriveAt_arbiter (p : Port) (row : Row) (s : State) : (arriveAt p row s).2.arbiter = s.arbiter := by
  unfold arriveAt; simp only; split <;> simp
@[simp] theorem arriveAt_phase (p : Port) (row : Row) (s : State) : (arriveAt p row s).2.phase = s.phase := by
  unfold arriveAt; simp only; split <;> simp
@[simp] theorem arriveAt_engine (p : Port) (row : Row) (s : State) : (arriveAt p row s).2.engine = s.engine := by
  unfold arriveAt; simp only; split <;> simp
@[simp] theorem arriveAt_load (p : Port) (row : Row) (s : State) : (arriveAt p row s).2.load = s.load := by
  unfold arriveAt; simp only; split <;> simp
@[simp] theorem arriveAt_loadAddr (p : Port) (row : Row) (s : State) : (arriveAt p row s).2.loadAddr = s.loadAddr := by
  unfold arriveAt; simp only; split <;> simp
@[simp] theorem arriveAt_loadSelected (p : Port) (row : Row) (s : State) : (arriveAt p row s).2.loadSelected = s.loadSelected := by
  unfold arriveAt; simp only; split <;> simp
@[simp] theorem arriveAt_freeCount (p : Port) (row : Row) (s : State) : (arriveAt p row s).2.freeCount = s.freeCount := by
  unfold arriveAt; simp only; split <;> simp

@[simp] theorem arriveRow_pending (row : Row) (s : State) : (arriveRow row s).2.pending = s.pending :=
  arriveRow_induction (fun x => x.2.pending = s.pending) row s rfl fun p x h => by rw [arriveAt_pending, h]
@[simp] theorem arriveRow_resetHeld (row : Row) (s : State) : (arriveRow row s).2.resetHeld = s.resetHeld :=
  arriveRow_induction (fun x => x.2.resetHeld = s.resetHeld) row s rfl fun p x h => by rw [arriveAt_resetHeld, h]
@[simp] theorem arriveRow_line (row : Row) (s : State) : (arriveRow row s).2.line = s.line :=
  arriveRow_induction (fun x => x.2.line = s.line) row s rfl fun p x h => by rw [arriveAt_line, h]
@[simp] theorem arriveRow_rows (row : Row) (s : State) : (arriveRow row s).2.rows = s.rows :=
  arriveRow_induction (fun x => x.2.rows = s.rows) row s rfl fun p x h => by rw [arriveAt_rows, h]
@[simp] theorem arriveRow_exitOffset (row : Row) (s : State) : (arriveRow row s).2.exitOffset = s.exitOffset :=
  arriveRow_induction (fun x => x.2.exitOffset = s.exitOffset) row s rfl fun p x h => by rw [arriveAt_exitOffset, h]
@[simp] theorem arriveRow_sealOffset (row : Row) (s : State) : (arriveRow row s).2.sealOffset = s.sealOffset :=
  arriveRow_induction (fun x => x.2.sealOffset = s.sealOffset) row s rfl fun p x h => by rw [arriveAt_sealOffset, h]
@[simp] theorem arriveRow_indexCount (row : Row) (s : State) : (arriveRow row s).2.indexCount = s.indexCount :=
  arriveRow_induction (fun x => x.2.indexCount = s.indexCount) row s rfl fun p x h => by rw [arriveAt_indexCount, h]
@[simp] theorem arriveRow_lastIndex (row : Row) (s : State) : (arriveRow row s).2.lastIndex = s.lastIndex :=
  arriveRow_induction (fun x => x.2.lastIndex = s.lastIndex) row s rfl fun p x h => by rw [arriveAt_lastIndex, h]
@[simp] theorem arriveRow_advancesDue (row : Row) (s : State) : (arriveRow row s).2.advancesDue = s.advancesDue :=
  arriveRow_induction (fun x => x.2.advancesDue = s.advancesDue) row s rfl fun p x h => by rw [arriveAt_advancesDue, h]
@[simp] theorem arriveRow_timeTag (row : Row) (s : State) : (arriveRow row s).2.timeTag = s.timeTag :=
  arriveRow_induction (fun x => x.2.timeTag = s.timeTag) row s rfl fun p x h => by rw [arriveAt_timeTag, h]
@[simp] theorem arriveRow_interval (row : Row) (s : State) : (arriveRow row s).2.interval = s.interval :=
  arriveRow_induction (fun x => x.2.interval = s.interval) row s rfl fun p x h => by rw [arriveAt_interval, h]
@[simp] theorem arriveRow_sinceLast (row : Row) (s : State) : (arriveRow row s).2.sinceLast = s.sinceLast :=
  arriveRow_induction (fun x => x.2.sinceLast = s.sinceLast) row s rfl fun p x h => by rw [arriveAt_sinceLast, h]
@[simp] theorem arriveRow_cardsFormed (row : Row) (s : State) : (arriveRow row s).2.cardsFormed = s.cardsFormed :=
  arriveRow_induction (fun x => x.2.cardsFormed = s.cardsFormed) row s rfl fun p x h => by rw [arriveAt_cardsFormed, h]
@[simp] theorem arriveRow_cardsPurged (row : Row) (s : State) : (arriveRow row s).2.cardsPurged = s.cardsPurged :=
  arriveRow_induction (fun x => x.2.cardsPurged = s.cardsPurged) row s rfl fun p x h => by rw [arriveAt_cardsPurged, h]
@[simp] theorem arriveRow_indexGlitches (row : Row) (s : State) : (arriveRow row s).2.indexGlitches = s.indexGlitches :=
  arriveRow_induction (fun x => x.2.indexGlitches = s.indexGlitches) row s rfl fun p x h => by rw [arriveAt_indexGlitches, h]
@[simp] theorem arriveRow_stations (row : Row) (s : State) : (arriveRow row s).2.stations = s.stations :=
  arriveRow_induction (fun x => x.2.stations = s.stations) row s rfl fun p x h => by rw [arriveAt_stations, h]
@[simp] theorem arriveRow_recipes (row : Row) (s : State) : (arriveRow row s).2.recipes = s.recipes :=
  arriveRow_induction (fun x => x.2.recipes = s.recipes) row s rfl fun p x h => by rw [arriveAt_recipes, h]
@[simp] theorem arriveRow_useCounts (row : Row) (s : State) : (arriveRow row s).2.useCounts = s.useCounts :=
  arriveRow_induction (fun x => x.2.useCounts = s.useCounts) row s rfl fun p x h => by rw [arriveAt_useCounts, h]
@[simp] theorem arriveRow_selected (row : Row) (s : State) : (arriveRow row s).2.selected = s.selected :=
  arriveRow_induction (fun x => x.2.selected = s.selected) row s rfl fun p x h => by rw [arriveAt_selected, h]
@[simp] theorem arriveRow_trace (row : Row) (s : State) : (arriveRow row s).2.trace = s.trace :=
  arriveRow_induction (fun x => x.2.trace = s.trace) row s rfl fun p x h => by rw [arriveAt_trace, h]
@[simp] theorem arriveRow_notify (row : Row) (s : State) : (arriveRow row s).2.notify = s.notify :=
  arriveRow_induction (fun x => x.2.notify = s.notify) row s rfl fun p x h => by rw [arriveAt_notify, h]
@[simp] theorem arriveRow_holdLevel (row : Row) (s : State) : (arriveRow row s).2.holdLevel = s.holdLevel :=
  arriveRow_induction (fun x => x.2.holdLevel = s.holdLevel) row s rfl fun p x h => by rw [arriveAt_holdLevel, h]
@[simp] theorem arriveRow_cardsDropped (row : Row) (s : State) : (arriveRow row s).2.cardsDropped = s.cardsDropped :=
  arriveRow_induction (fun x => x.2.cardsDropped = s.cardsDropped) row s rfl fun p x h => by rw [arriveAt_cardsDropped, h]
@[simp] theorem arriveRow_cardsRead (row : Row) (s : State) : (arriveRow row s).2.cardsRead = s.cardsRead :=
  arriveRow_induction (fun x => x.2.cardsRead = s.cardsRead) row s rfl fun p x h => by rw [arriveAt_cardsRead, h]
@[simp] theorem arriveRow_goodLost (row : Row) (s : State) : (arriveRow row s).2.goodLost = s.goodLost :=
  arriveRow_induction (fun x => x.2.goodLost = s.goodLost) row s rfl fun p x h => by rw [arriveAt_goodLost, h]
@[simp] theorem arriveRow_goodUnconfirmed (row : Row) (s : State) : (arriveRow row s).2.goodUnconfirmed = s.goodUnconfirmed :=
  arriveRow_induction (fun x => x.2.goodUnconfirmed = s.goodUnconfirmed) row s rfl fun p x h => by rw [arriveAt_goodUnconfirmed, h]
@[simp] theorem arriveRow_fault (row : Row) (s : State) : (arriveRow row s).2.fault = s.fault :=
  arriveRow_induction (fun x => x.2.fault = s.fault) row s rfl fun p x h => by rw [arriveAt_fault, h]
@[simp] theorem arriveRow_arbiter (row : Row) (s : State) : (arriveRow row s).2.arbiter = s.arbiter :=
  arriveRow_induction (fun x => x.2.arbiter = s.arbiter) row s rfl fun p x h => by rw [arriveAt_arbiter, h]
@[simp] theorem arriveRow_phase (row : Row) (s : State) : (arriveRow row s).2.phase = s.phase :=
  arriveRow_induction (fun x => x.2.phase = s.phase) row s rfl fun p x h => by rw [arriveAt_phase, h]
@[simp] theorem arriveRow_engine (row : Row) (s : State) : (arriveRow row s).2.engine = s.engine :=
  arriveRow_induction (fun x => x.2.engine = s.engine) row s rfl fun p x h => by rw [arriveAt_engine, h]
@[simp] theorem arriveRow_load (row : Row) (s : State) : (arriveRow row s).2.load = s.load :=
  arriveRow_induction (fun x => x.2.load = s.load) row s rfl fun p x h => by rw [arriveAt_load, h]
@[simp] theorem arriveRow_loadAddr (row : Row) (s : State) : (arriveRow row s).2.loadAddr = s.loadAddr :=
  arriveRow_induction (fun x => x.2.loadAddr = s.loadAddr) row s rfl fun p x h => by rw [arriveAt_loadAddr, h]
@[simp] theorem arriveRow_loadSelected (row : Row) (s : State) : (arriveRow row s).2.loadSelected = s.loadSelected :=
  arriveRow_induction (fun x => x.2.loadSelected = s.loadSelected) row s rfl fun p x h => by rw [arriveAt_loadSelected, h]
@[simp] theorem arriveRow_freeCount (row : Row) (s : State) : (arriveRow row s).2.freeCount = s.freeCount :=
  arriveRow_induction (fun x => x.2.freeCount = s.freeCount) row s rfl fun p x h => by rw [arriveAt_freeCount, h]

/-! ### Reconciliation and the offer of a record -/

@[simp] theorem reconcile_pending (row : Row) (c : Card) (s : State) : (reconcile row c s).pending = s.pending := by
  unfold reconcile latchFault; split <;> (try split) <;> rfl
@[simp] theorem reconcile_resetHeld (row : Row) (c : Card) (s : State) : (reconcile row c s).resetHeld = s.resetHeld := by
  unfold reconcile latchFault; split <;> (try split) <;> rfl
@[simp] theorem reconcile_line (row : Row) (c : Card) (s : State) : (reconcile row c s).line = s.line := by
  unfold reconcile latchFault; split <;> (try split) <;> rfl
@[simp] theorem reconcile_rows (row : Row) (c : Card) (s : State) : (reconcile row c s).rows = s.rows := by
  unfold reconcile latchFault; split <;> (try split) <;> rfl
@[simp] theorem reconcile_exitOffset (row : Row) (c : Card) (s : State) : (reconcile row c s).exitOffset = s.exitOffset := by
  unfold reconcile latchFault; split <;> (try split) <;> rfl
@[simp] theorem reconcile_sealOffset (row : Row) (c : Card) (s : State) : (reconcile row c s).sealOffset = s.sealOffset := by
  unfold reconcile latchFault; split <;> (try split) <;> rfl
@[simp] theorem reconcile_indexCount (row : Row) (c : Card) (s : State) : (reconcile row c s).indexCount = s.indexCount := by
  unfold reconcile latchFault; split <;> (try split) <;> rfl
@[simp] theorem reconcile_lastIndex (row : Row) (c : Card) (s : State) : (reconcile row c s).lastIndex = s.lastIndex := by
  unfold reconcile latchFault; split <;> (try split) <;> rfl
@[simp] theorem reconcile_advancesDue (row : Row) (c : Card) (s : State) : (reconcile row c s).advancesDue = s.advancesDue := by
  unfold reconcile latchFault; split <;> (try split) <;> rfl
@[simp] theorem reconcile_timeTag (row : Row) (c : Card) (s : State) : (reconcile row c s).timeTag = s.timeTag := by
  unfold reconcile latchFault; split <;> (try split) <;> rfl
@[simp] theorem reconcile_interval (row : Row) (c : Card) (s : State) : (reconcile row c s).interval = s.interval := by
  unfold reconcile latchFault; split <;> (try split) <;> rfl
@[simp] theorem reconcile_sinceLast (row : Row) (c : Card) (s : State) : (reconcile row c s).sinceLast = s.sinceLast := by
  unfold reconcile latchFault; split <;> (try split) <;> rfl
@[simp] theorem reconcile_cardsFormed (row : Row) (c : Card) (s : State) : (reconcile row c s).cardsFormed = s.cardsFormed := by
  unfold reconcile latchFault; split <;> (try split) <;> rfl
@[simp] theorem reconcile_cardsPurged (row : Row) (c : Card) (s : State) : (reconcile row c s).cardsPurged = s.cardsPurged := by
  unfold reconcile latchFault; split <;> (try split) <;> rfl
@[simp] theorem reconcile_indexGlitches (row : Row) (c : Card) (s : State) : (reconcile row c s).indexGlitches = s.indexGlitches := by
  unfold reconcile latchFault; split <;> (try split) <;> rfl
@[simp] theorem reconcile_stations (row : Row) (c : Card) (s : State) : (reconcile row c s).stations = s.stations := by
  unfold reconcile latchFault; split <;> (try split) <;> rfl
@[simp] theorem reconcile_recipes (row : Row) (c : Card) (s : State) : (reconcile row c s).recipes = s.recipes := by
  unfold reconcile latchFault; split <;> (try split) <;> rfl
@[simp] theorem reconcile_useCounts (row : Row) (c : Card) (s : State) : (reconcile row c s).useCounts = s.useCounts := by
  unfold reconcile latchFault; split <;> (try split) <;> rfl
@[simp] theorem reconcile_selected (row : Row) (c : Card) (s : State) : (reconcile row c s).selected = s.selected := by
  unfold reconcile latchFault; split <;> (try split) <;> rfl
@[simp] theorem reconcile_trace (row : Row) (c : Card) (s : State) : (reconcile row c s).trace = s.trace := by
  unfold reconcile latchFault; split <;> (try split) <;> rfl
@[simp] theorem reconcile_notify (row : Row) (c : Card) (s : State) : (reconcile row c s).notify = s.notify := by
  unfold reconcile latchFault; split <;> (try split) <;> rfl
@[simp] theorem reconcile_holdLevel (row : Row) (c : Card) (s : State) : (reconcile row c s).holdLevel = s.holdLevel := by
  unfold reconcile latchFault; split <;> (try split) <;> rfl
@[simp] theorem reconcile_cardsDropped (row : Row) (c : Card) (s : State) : (reconcile row c s).cardsDropped = s.cardsDropped := by
  unfold reconcile latchFault; split <;> (try split) <;> rfl
@[simp] theorem reconcile_cardsRead (row : Row) (c : Card) (s : State) : (reconcile row c s).cardsRead = s.cardsRead := by
  unfold reconcile latchFault; split <;> (try split) <;> rfl
@[simp] theorem reconcile_arbiter (row : Row) (c : Card) (s : State) : (reconcile row c s).arbiter = s.arbiter := by
  unfold reconcile latchFault; split <;> (try split) <;> rfl
@[simp] theorem reconcile_phase (row : Row) (c : Card) (s : State) : (reconcile row c s).phase = s.phase := by
  unfold reconcile latchFault; split <;> (try split) <;> rfl
@[simp] theorem reconcile_engine (row : Row) (c : Card) (s : State) : (reconcile row c s).engine = s.engine := by
  unfold reconcile latchFault; split <;> (try split) <;> rfl
@[simp] theorem reconcile_load (row : Row) (c : Card) (s : State) : (reconcile row c s).load = s.load := by
  unfold reconcile latchFault; split <;> (try split) <;> rfl
@[simp] theorem reconcile_loadAddr (row : Row) (c : Card) (s : State) : (reconcile row c s).loadAddr = s.loadAddr := by
  unfold reconcile latchFault; split <;> (try split) <;> rfl
@[simp] theorem reconcile_loadSelected (row : Row) (c : Card) (s : State) : (reconcile row c s).loadSelected = s.loadSelected := by
  unfold reconcile latchFault; split <;> (try split) <;> rfl
@[simp] theorem reconcile_freeCount (row : Row) (c : Card) (s : State) : (reconcile row c s).freeCount = s.freeCount := by
  unfold reconcile latchFault; split <;> (try split) <;> rfl
@[simp] theorem offerRecord_pending (rec : RetireRecord) (s : State) : (offerRecord rec s).pending = s.pending := by
  unfold offerRecord; split <;> rfl
@[simp] theorem offerRecord_resetHeld (rec : RetireRecord) (s : State) : (offerRecord rec s).resetHeld = s.resetHeld := by
  unfold offerRecord; split <;> rfl
@[simp] theorem offerRecord_line (rec : RetireRecord) (s : State) : (offerRecord rec s).line = s.line := by
  unfold offerRecord; split <;> rfl
@[simp] theorem offerRecord_rows (rec : RetireRecord) (s : State) : (offerRecord rec s).rows = s.rows := by
  unfold offerRecord; split <;> rfl
@[simp] theorem offerRecord_exitOffset (rec : RetireRecord) (s : State) : (offerRecord rec s).exitOffset = s.exitOffset := by
  unfold offerRecord; split <;> rfl
@[simp] theorem offerRecord_sealOffset (rec : RetireRecord) (s : State) : (offerRecord rec s).sealOffset = s.sealOffset := by
  unfold offerRecord; split <;> rfl
@[simp] theorem offerRecord_indexCount (rec : RetireRecord) (s : State) : (offerRecord rec s).indexCount = s.indexCount := by
  unfold offerRecord; split <;> rfl
@[simp] theorem offerRecord_lastIndex (rec : RetireRecord) (s : State) : (offerRecord rec s).lastIndex = s.lastIndex := by
  unfold offerRecord; split <;> rfl
@[simp] theorem offerRecord_advancesDue (rec : RetireRecord) (s : State) : (offerRecord rec s).advancesDue = s.advancesDue := by
  unfold offerRecord; split <;> rfl
@[simp] theorem offerRecord_timeTag (rec : RetireRecord) (s : State) : (offerRecord rec s).timeTag = s.timeTag := by
  unfold offerRecord; split <;> rfl
@[simp] theorem offerRecord_interval (rec : RetireRecord) (s : State) : (offerRecord rec s).interval = s.interval := by
  unfold offerRecord; split <;> rfl
@[simp] theorem offerRecord_sinceLast (rec : RetireRecord) (s : State) : (offerRecord rec s).sinceLast = s.sinceLast := by
  unfold offerRecord; split <;> rfl
@[simp] theorem offerRecord_cardsFormed (rec : RetireRecord) (s : State) : (offerRecord rec s).cardsFormed = s.cardsFormed := by
  unfold offerRecord; split <;> rfl
@[simp] theorem offerRecord_cardsPurged (rec : RetireRecord) (s : State) : (offerRecord rec s).cardsPurged = s.cardsPurged := by
  unfold offerRecord; split <;> rfl
@[simp] theorem offerRecord_indexGlitches (rec : RetireRecord) (s : State) : (offerRecord rec s).indexGlitches = s.indexGlitches := by
  unfold offerRecord; split <;> rfl
@[simp] theorem offerRecord_stations (rec : RetireRecord) (s : State) : (offerRecord rec s).stations = s.stations := by
  unfold offerRecord; split <;> rfl
@[simp] theorem offerRecord_recipes (rec : RetireRecord) (s : State) : (offerRecord rec s).recipes = s.recipes := by
  unfold offerRecord; split <;> rfl
@[simp] theorem offerRecord_useCounts (rec : RetireRecord) (s : State) : (offerRecord rec s).useCounts = s.useCounts := by
  unfold offerRecord; split <;> rfl
@[simp] theorem offerRecord_selected (rec : RetireRecord) (s : State) : (offerRecord rec s).selected = s.selected := by
  unfold offerRecord; split <;> rfl
@[simp] theorem offerRecord_notify (rec : RetireRecord) (s : State) : (offerRecord rec s).notify = s.notify := by
  unfold offerRecord; split <;> rfl
@[simp] theorem offerRecord_holdLevel (rec : RetireRecord) (s : State) : (offerRecord rec s).holdLevel = s.holdLevel := by
  unfold offerRecord; split <;> rfl
@[simp] theorem offerRecord_cardsRead (rec : RetireRecord) (s : State) : (offerRecord rec s).cardsRead = s.cardsRead := by
  unfold offerRecord; split <;> rfl
@[simp] theorem offerRecord_goodLost (rec : RetireRecord) (s : State) : (offerRecord rec s).goodLost = s.goodLost := by
  unfold offerRecord; split <;> rfl
@[simp] theorem offerRecord_goodUnconfirmed (rec : RetireRecord) (s : State) : (offerRecord rec s).goodUnconfirmed = s.goodUnconfirmed := by
  unfold offerRecord; split <;> rfl
@[simp] theorem offerRecord_fault (rec : RetireRecord) (s : State) : (offerRecord rec s).fault = s.fault := by
  unfold offerRecord; split <;> rfl
@[simp] theorem offerRecord_arbiter (rec : RetireRecord) (s : State) : (offerRecord rec s).arbiter = s.arbiter := by
  unfold offerRecord; split <;> rfl
@[simp] theorem offerRecord_phase (rec : RetireRecord) (s : State) : (offerRecord rec s).phase = s.phase := by
  unfold offerRecord; split <;> rfl
@[simp] theorem offerRecord_engine (rec : RetireRecord) (s : State) : (offerRecord rec s).engine = s.engine := by
  unfold offerRecord; split <;> rfl
@[simp] theorem offerRecord_load (rec : RetireRecord) (s : State) : (offerRecord rec s).load = s.load := by
  unfold offerRecord; split <;> rfl
@[simp] theorem offerRecord_loadAddr (rec : RetireRecord) (s : State) : (offerRecord rec s).loadAddr = s.loadAddr := by
  unfold offerRecord; split <;> rfl
@[simp] theorem offerRecord_loadSelected (rec : RetireRecord) (s : State) : (offerRecord rec s).loadSelected = s.loadSelected := by
  unfold offerRecord; split <;> rfl
@[simp] theorem offerRecord_freeCount (rec : RetireRecord) (s : State) : (offerRecord rec s).freeCount = s.freeCount := by
  unfold offerRecord; split <;> rfl

/-! ### Retirement and the work of one row -/

@[simp] theorem retireRow_pending (row : Row) (s : State) : (retireRow row s).pending = s.pending := by
  unfold retireRow
  simp only [State.setUseCount_pending]
  generalize row.cards = l
  induction l generalizing s with
  | nil => rfl
  | cons c l ih => rw [List.foldl_cons, ih]; simp [retireCard]
@[simp] theorem retireRow_resetHeld (row : Row) (s : State) : (retireRow row s).resetHeld = s.resetHeld := by
  unfold retireRow
  simp only [State.setUseCount_resetHeld]
  generalize row.cards = l
  induction l generalizing s with
  | nil => rfl
  | cons c l ih => rw [List.foldl_cons, ih]; simp [retireCard]
@[simp] theorem retireRow_line (row : Row) (s : State) : (retireRow row s).line = s.line := by
  unfold retireRow
  simp only [State.setUseCount_line]
  generalize row.cards = l
  induction l generalizing s with
  | nil => rfl
  | cons c l ih => rw [List.foldl_cons, ih]; simp [retireCard]
@[simp] theorem retireRow_rows (row : Row) (s : State) : (retireRow row s).rows = s.rows := by
  unfold retireRow
  simp only [State.setUseCount_rows]
  generalize row.cards = l
  induction l generalizing s with
  | nil => rfl
  | cons c l ih => rw [List.foldl_cons, ih]; simp [retireCard]
@[simp] theorem retireRow_exitOffset (row : Row) (s : State) : (retireRow row s).exitOffset = s.exitOffset := by
  unfold retireRow
  simp only [State.setUseCount_exitOffset]
  generalize row.cards = l
  induction l generalizing s with
  | nil => rfl
  | cons c l ih => rw [List.foldl_cons, ih]; simp [retireCard]
@[simp] theorem retireRow_sealOffset (row : Row) (s : State) : (retireRow row s).sealOffset = s.sealOffset := by
  unfold retireRow
  simp only [State.setUseCount_sealOffset]
  generalize row.cards = l
  induction l generalizing s with
  | nil => rfl
  | cons c l ih => rw [List.foldl_cons, ih]; simp [retireCard]
@[simp] theorem retireRow_indexCount (row : Row) (s : State) : (retireRow row s).indexCount = s.indexCount := by
  unfold retireRow
  simp only [State.setUseCount_indexCount]
  generalize row.cards = l
  induction l generalizing s with
  | nil => rfl
  | cons c l ih => rw [List.foldl_cons, ih]; simp [retireCard]
@[simp] theorem retireRow_lastIndex (row : Row) (s : State) : (retireRow row s).lastIndex = s.lastIndex := by
  unfold retireRow
  simp only [State.setUseCount_lastIndex]
  generalize row.cards = l
  induction l generalizing s with
  | nil => rfl
  | cons c l ih => rw [List.foldl_cons, ih]; simp [retireCard]
@[simp] theorem retireRow_advancesDue (row : Row) (s : State) : (retireRow row s).advancesDue = s.advancesDue := by
  unfold retireRow
  simp only [State.setUseCount_advancesDue]
  generalize row.cards = l
  induction l generalizing s with
  | nil => rfl
  | cons c l ih => rw [List.foldl_cons, ih]; simp [retireCard]
@[simp] theorem retireRow_timeTag (row : Row) (s : State) : (retireRow row s).timeTag = s.timeTag := by
  unfold retireRow
  simp only [State.setUseCount_timeTag]
  generalize row.cards = l
  induction l generalizing s with
  | nil => rfl
  | cons c l ih => rw [List.foldl_cons, ih]; simp [retireCard]
@[simp] theorem retireRow_interval (row : Row) (s : State) : (retireRow row s).interval = s.interval := by
  unfold retireRow
  simp only [State.setUseCount_interval]
  generalize row.cards = l
  induction l generalizing s with
  | nil => rfl
  | cons c l ih => rw [List.foldl_cons, ih]; simp [retireCard]
@[simp] theorem retireRow_sinceLast (row : Row) (s : State) : (retireRow row s).sinceLast = s.sinceLast := by
  unfold retireRow
  simp only [State.setUseCount_sinceLast]
  generalize row.cards = l
  induction l generalizing s with
  | nil => rfl
  | cons c l ih => rw [List.foldl_cons, ih]; simp [retireCard]
@[simp] theorem retireRow_cardsFormed (row : Row) (s : State) : (retireRow row s).cardsFormed = s.cardsFormed := by
  unfold retireRow
  simp only [State.setUseCount_cardsFormed]
  generalize row.cards = l
  induction l generalizing s with
  | nil => rfl
  | cons c l ih => rw [List.foldl_cons, ih]; simp [retireCard]
@[simp] theorem retireRow_cardsPurged (row : Row) (s : State) : (retireRow row s).cardsPurged = s.cardsPurged := by
  unfold retireRow
  simp only [State.setUseCount_cardsPurged]
  generalize row.cards = l
  induction l generalizing s with
  | nil => rfl
  | cons c l ih => rw [List.foldl_cons, ih]; simp [retireCard]
@[simp] theorem retireRow_indexGlitches (row : Row) (s : State) : (retireRow row s).indexGlitches = s.indexGlitches := by
  unfold retireRow
  simp only [State.setUseCount_indexGlitches]
  generalize row.cards = l
  induction l generalizing s with
  | nil => rfl
  | cons c l ih => rw [List.foldl_cons, ih]; simp [retireCard]
@[simp] theorem retireRow_stations (row : Row) (s : State) : (retireRow row s).stations = s.stations := by
  unfold retireRow
  simp only [State.setUseCount_stations]
  generalize row.cards = l
  induction l generalizing s with
  | nil => rfl
  | cons c l ih => rw [List.foldl_cons, ih]; simp [retireCard]
@[simp] theorem retireRow_recipes (row : Row) (s : State) : (retireRow row s).recipes = s.recipes := by
  unfold retireRow
  simp only [State.setUseCount_recipes]
  generalize row.cards = l
  induction l generalizing s with
  | nil => rfl
  | cons c l ih => rw [List.foldl_cons, ih]; simp [retireCard]
@[simp] theorem retireRow_selected (row : Row) (s : State) : (retireRow row s).selected = s.selected := by
  unfold retireRow
  simp only [State.setUseCount_selected]
  generalize row.cards = l
  induction l generalizing s with
  | nil => rfl
  | cons c l ih => rw [List.foldl_cons, ih]; simp [retireCard]
@[simp] theorem retireRow_notify (row : Row) (s : State) : (retireRow row s).notify = s.notify := by
  unfold retireRow
  simp only [State.setUseCount_notify]
  generalize row.cards = l
  induction l generalizing s with
  | nil => rfl
  | cons c l ih => rw [List.foldl_cons, ih]; simp [retireCard]
@[simp] theorem retireRow_holdLevel (row : Row) (s : State) : (retireRow row s).holdLevel = s.holdLevel := by
  unfold retireRow
  simp only [State.setUseCount_holdLevel]
  generalize row.cards = l
  induction l generalizing s with
  | nil => rfl
  | cons c l ih => rw [List.foldl_cons, ih]; simp [retireCard]
@[simp] theorem retireRow_cardsRead (row : Row) (s : State) : (retireRow row s).cardsRead = s.cardsRead := by
  unfold retireRow
  simp only [State.setUseCount_cardsRead]
  generalize row.cards = l
  induction l generalizing s with
  | nil => rfl
  | cons c l ih => rw [List.foldl_cons, ih]; simp [retireCard]
@[simp] theorem retireRow_arbiter (row : Row) (s : State) : (retireRow row s).arbiter = s.arbiter := by
  unfold retireRow
  simp only [State.setUseCount_arbiter]
  generalize row.cards = l
  induction l generalizing s with
  | nil => rfl
  | cons c l ih => rw [List.foldl_cons, ih]; simp [retireCard]
@[simp] theorem retireRow_phase (row : Row) (s : State) : (retireRow row s).phase = s.phase := by
  unfold retireRow
  simp only [State.setUseCount_phase]
  generalize row.cards = l
  induction l generalizing s with
  | nil => rfl
  | cons c l ih => rw [List.foldl_cons, ih]; simp [retireCard]
@[simp] theorem retireRow_engine (row : Row) (s : State) : (retireRow row s).engine = s.engine := by
  unfold retireRow
  simp only [State.setUseCount_engine]
  generalize row.cards = l
  induction l generalizing s with
  | nil => rfl
  | cons c l ih => rw [List.foldl_cons, ih]; simp [retireCard]
@[simp] theorem retireRow_load (row : Row) (s : State) : (retireRow row s).load = s.load := by
  unfold retireRow
  simp only [State.setUseCount_load]
  generalize row.cards = l
  induction l generalizing s with
  | nil => rfl
  | cons c l ih => rw [List.foldl_cons, ih]; simp [retireCard]
@[simp] theorem retireRow_loadAddr (row : Row) (s : State) : (retireRow row s).loadAddr = s.loadAddr := by
  unfold retireRow
  simp only [State.setUseCount_loadAddr]
  generalize row.cards = l
  induction l generalizing s with
  | nil => rfl
  | cons c l ih => rw [List.foldl_cons, ih]; simp [retireCard]
@[simp] theorem retireRow_loadSelected (row : Row) (s : State) : (retireRow row s).loadSelected = s.loadSelected := by
  unfold retireRow
  simp only [State.setUseCount_loadSelected]
  generalize row.cards = l
  induction l generalizing s with
  | nil => rfl
  | cons c l ih => rw [List.foldl_cons, ih]; simp [retireCard]
@[simp] theorem retireRow_freeCount (row : Row) (s : State) : (retireRow row s).freeCount = s.freeCount := by
  unfold retireRow
  simp only [State.setUseCount_freeCount]
  generalize row.cards = l
  induction l generalizing s with
  | nil => rfl
  | cons c l ih => rw [List.foldl_cons, ih]; simp [retireCard]
@[simp] theorem takeRow_pending (s : State) (row : Row) : (takeRow s row).pending = s.pending := by
  unfold takeRow; simp only; split <;> simp
@[simp] theorem takeRow_resetHeld (s : State) (row : Row) : (takeRow s row).resetHeld = s.resetHeld := by
  unfold takeRow; simp only; split <;> simp
@[simp] theorem takeRow_line (s : State) (row : Row) : (takeRow s row).line = s.line := by
  unfold takeRow; simp only; split <;> simp
@[simp] theorem takeRow_exitOffset (s : State) (row : Row) : (takeRow s row).exitOffset = s.exitOffset := by
  unfold takeRow; simp only; split <;> simp
@[simp] theorem takeRow_sealOffset (s : State) (row : Row) : (takeRow s row).sealOffset = s.sealOffset := by
  unfold takeRow; simp only; split <;> simp
@[simp] theorem takeRow_indexCount (s : State) (row : Row) : (takeRow s row).indexCount = s.indexCount := by
  unfold takeRow; simp only; split <;> simp
@[simp] theorem takeRow_lastIndex (s : State) (row : Row) : (takeRow s row).lastIndex = s.lastIndex := by
  unfold takeRow; simp only; split <;> simp
@[simp] theorem takeRow_advancesDue (s : State) (row : Row) : (takeRow s row).advancesDue = s.advancesDue := by
  unfold takeRow; simp only; split <;> simp
@[simp] theorem takeRow_timeTag (s : State) (row : Row) : (takeRow s row).timeTag = s.timeTag := by
  unfold takeRow; simp only; split <;> simp
@[simp] theorem takeRow_interval (s : State) (row : Row) : (takeRow s row).interval = s.interval := by
  unfold takeRow; simp only; split <;> simp
@[simp] theorem takeRow_sinceLast (s : State) (row : Row) : (takeRow s row).sinceLast = s.sinceLast := by
  unfold takeRow; simp only; split <;> simp
@[simp] theorem takeRow_cardsFormed (s : State) (row : Row) : (takeRow s row).cardsFormed = s.cardsFormed := by
  unfold takeRow; simp only; split <;> simp
@[simp] theorem takeRow_cardsPurged (s : State) (row : Row) : (takeRow s row).cardsPurged = s.cardsPurged := by
  unfold takeRow; simp only; split <;> simp
@[simp] theorem takeRow_indexGlitches (s : State) (row : Row) : (takeRow s row).indexGlitches = s.indexGlitches := by
  unfold takeRow; simp only; split <;> simp
@[simp] theorem takeRow_stations (s : State) (row : Row) : (takeRow s row).stations = s.stations := by
  unfold takeRow; simp only; split <;> simp
@[simp] theorem takeRow_recipes (s : State) (row : Row) : (takeRow s row).recipes = s.recipes := by
  unfold takeRow; simp only; split <;> simp
@[simp] theorem takeRow_selected (s : State) (row : Row) : (takeRow s row).selected = s.selected := by
  unfold takeRow; simp only; split <;> simp
@[simp] theorem takeRow_notify (s : State) (row : Row) : (takeRow s row).notify = s.notify := by
  unfold takeRow; simp only; split <;> simp
@[simp] theorem takeRow_holdLevel (s : State) (row : Row) : (takeRow s row).holdLevel = s.holdLevel := by
  unfold takeRow; simp only; split <;> simp
@[simp] theorem takeRow_cardsRead (s : State) (row : Row) : (takeRow s row).cardsRead = s.cardsRead := by
  unfold takeRow; simp only; split <;> simp
@[simp] theorem takeRow_arbiter (s : State) (row : Row) : (takeRow s row).arbiter = s.arbiter := by
  unfold takeRow; simp only; split <;> simp
@[simp] theorem takeRow_phase (s : State) (row : Row) : (takeRow s row).phase = s.phase := by
  unfold takeRow; simp only; split <;> simp
@[simp] theorem takeRow_engine (s : State) (row : Row) : (takeRow s row).engine = s.engine := by
  unfold takeRow; simp only; split <;> simp
@[simp] theorem takeRow_load (s : State) (row : Row) : (takeRow s row).load = s.load := by
  unfold takeRow; simp only; split <;> simp
@[simp] theorem takeRow_loadAddr (s : State) (row : Row) : (takeRow s row).loadAddr = s.loadAddr := by
  unfold takeRow; simp only; split <;> simp
@[simp] theorem takeRow_loadSelected (s : State) (row : Row) : (takeRow s row).loadSelected = s.loadSelected := by
  unfold takeRow; simp only; split <;> simp
@[simp] theorem takeRow_freeCount (s : State) (row : Row) : (takeRow s row).freeCount = s.freeCount := by
  unfold takeRow; simp only; split <;> simp

/-- The row goes back on the map behind the others unless it has reached E (R15). -/
theorem takeRow_rows (s : State) (row : Row) :
    (takeRow s row).rows
      = if s.exitOffset = some row.offset then s.rows else s.rows ++ [(arriveRow (closeRow s row) s).1] := by
  unfold takeRow
  simp only
  split <;> simp

theorem foldl_takeRow_stations (rows : List Row) (s : State) : (rows.foldl takeRow s).stations = s.stations := by
  induction rows generalizing s with
  | nil => rfl
  | cons r rows ih => rw [List.foldl_cons, ih, takeRow_stations]

theorem foldl_takeRow_exitOffset (rows : List Row) (s : State) :
    (rows.foldl takeRow s).exitOffset = s.exitOffset := by
  induction rows generalizing s with
  | nil => rfl
  | cons r rows ih => rw [List.foldl_cons, ih, takeRow_exitOffset]

end Sys2Proof.Machine
end

