-- ==== Sys2Proof/Tests/Slice0.lean ====
section
/-! SUPPORT. Tests on small states. Expected values come from the manual's worked cases, named at each test, from its
tables, or from a calculation by hand; frames' checks were calculated apart from this model. Then, for each statement
with hypotheses, a witness: a concrete state and operands that meet them, at the boundary values of its clauses. -/

namespace Sys2Proof.Tests

open Sys2Proof.Machine

-- One theorem at a time: the kernel's evaluations side by side each hold a thread with its stack.
set_option Elab.async false

/-! ### Small states -/

/-- READY, in IDLE, with the default tables. -/
def ready : State := { State.reset with resetHeld := false, load := .ready }

/-- The autoload unit at an address of the image. -/
def reading (address : Nat) : State := { State.reset with resetHeld := false, loadAddr := address }

/-- A required, ACTIVE station. -/
def station (role : Role) (offset window : Nat) : Station := ⟨role, offset, window, true, .active, ⟨false, false, false⟩⟩

/-- The stations of the worked cases of chapters 5 to 7: FORM 0, FEED 1, INSPECT 5, TOPUP 8, SEAL 10 with window 2 and
PUNCH 12 with window 2; P7 the supervisor. S1 is 10 and E is 14. -/
def table : PerPort Station :=
  ⟨station .form 0 1, station .feed 1 1, station .inspect 5 1, station .topup 8 1, station .seal 10 2,
    station .punch 12 2, Station.default, Station.supervisor⟩

/-- The recipe of sections 6.6 and 7.6 with the cavity of section 5.6. -/
def recipe : Recipe := ⟨true, 4410, 15, true, 1, 1200, 900, 1400, 250, [⟨21, 4, 0, some .p1, true, false⟩]⟩

/-- Four fresh cards of one cavity. -/
def four : List Card := [0, 1, 2, 3].map (Card.fresh · 1)

/-- Row 100 at an offset. -/
def rowAt (offset : Nat) (cards : List Card) : Row := ⟨100, offset, 3, 15, 7, cards⟩

/-- The line in a state with recipe 3 selected and some rows. -/
def lineWith (line : LineState) (count : Word) (rows : List Row) : State :=
  { ready with
    line := line
    rows := rows
    exitOffset := some 14
    sealOffset := some 10
    indexCount := count
    lastIndex := some 7
    advancesDue := 1
    stations := table
    recipes := defaultRecipes.set 3 recipe
    useCounts := (Vector.replicate 16 0).set 3 rows.length
    selected := some 3 }

/-- The line in RUN with row 100 at an offset. -/
def online (offset : Nat) (cards : List Card) : State :=
  lineWith .run (100 + BitVec.ofNat 32 offset) [rowAt offset cards]

/-- The engine holding the request of a command. -/
def holding (c : Instr) (s : State) : State := { s with engine := requestOf c }

/-- A port block with messages waiting. -/
def withMessages (n : Nat) : PortBlock := { PortBlock.default with link := .up, outbound := List.replicate n .attention }

/-- The state after an outcome. -/
def after : Host.Outcome State Fault Refusal → State
  | .next s => s
  | _ => State.reset

/-- The newest message of a port after an outcome. -/
def answerAt (p : Port) (o : Host.Outcome State Fault Refusal) : Option Message := ((after o).port p).outbound.getLast?

/-- The card of row 100 in a lane after an outcome. -/
def cardOf (lane : Fin 4) (o : Host.Outcome State Fault Refusal) : Option Card :=
  ((after o).findRow 100).bind fun row => row.card lane

/-! ### Well-formedness: one ill-formed command for each check -/

theorem test_ill_signature : (Instr.autoloadSignatureRead [0x4D, 0x27, 0]).wellFormed = false := by decide
theorem test_ill_block : (Instr.autoloadBlockRead [0, 0]).wellFormed = false := by decide
theorem test_ill_frame_empty : (Instr.frameReceive .p0 []).wellFormed = false := by decide
theorem test_ill_frame_flag : (Instr.frameReceive .p0 [0x10, 0xC5]).wellFormed = false := by decide
theorem test_ill_form : (Instr.formResult .p0 0 0 0 0 (List.replicate 122 1)).wellFormed = false := by decide +kernel
theorem test_ill_placement : (Instr.placement .p1 0 0 0 (List.replicate 62 ⟨0, 0⟩)).wellFormed = false := by decide
theorem test_ill_inspection :
    (Instr.inspection .p2 0 0 0 (List.replicate 31 ⟨0, 0, 0, 0⟩)).wellFormed = false := by decide
theorem test_ill_recipe :
    (Instr.recipeWrite .p7 0 0 ⟨1, 0, 1, 19, 0, 0, 0, 0, 0, 0, List.replicate 19 ⟨1, 1, 0, 0, 0, 0⟩⟩).wellFormed
      = false := by decide +kernel
theorem test_well_formed_boundary : (Instr.inspection .p2 0 0 0 (List.replicate 30 ⟨0, 0, 0, 0⟩)).wellFormed = true
    ∧ (Instr.autoloadBlockRead []).wellFormed = true := by decide +kernel

/-! ### Frames, octet by octet from section 9.7 -/

/-- The check value the manual gives for the octets 31h to 39h (R143). -/
theorem test_check_value : crc [0x31, 0x32, 0x33, 0x34, 0x35, 0x36, 0x37, 0x38, 0x39] = 0x29B1 := by decide +kernel

theorem test_frame_start : readFrame [0x10, 0x01, 0x10, 0x00, 0xAB, 0x24] = some ⟨1, .start⟩ := by decide +kernel

theorem test_frame_placement :
    readFrame [0x02, 0x2A, 0x0F, 0x0A, 0x00, 0x00, 0x00, 0x3C, 0x00, 0x02, 0x00, 0x02, 0x01, 0x02, 0xD0, 0xF4]
      = some ⟨0x2A, .placement 60 0 [⟨0, 2⟩, ⟨1, 2⟩]⟩ := by decide +kernel

theorem test_frame_seal_hit :
    readFrame [0x04, 0x01, 0x00, 0x0C, 0x00, 0x00, 0x01, 0xF4, 0x02, 0x01, 0x07, 0x0D, 0x03, 0x84, 0x01, 0x36, 0x6A,
      0x0E] = some ⟨1, .sealHit 500 2 1 1805 900 310⟩ := by decide +kernel

theorem test_frame_card_query :
    readFrame [0x20, 0x07, 0x03, 0x05, 0x00, 0x00, 0x03, 0x20, 0x01, 0xAC, 0x82] = some ⟨7, .cardQuery 800 1⟩ := by
  decide +kernel

/-- A payload octet C5h goes as CAh E5h. -/
theorem test_frame_escaped_payload :
    readFrame [0x19, 0x09, 0x00, 0x02, 0x00, 0xCA, 0xE5, 0x13, 0x83] = some ⟨9, .indexIntervalSet 197⟩ := by
  decide +kernel

/-- The last octet of the check is C5h and goes escaped. -/
theorem test_frame_escaped_check :
    readFrame [0x14, 0x05, 0x00, 0x06, 0x00, 0x00, 0x03, 0x83, 0x06, 0x06, 0x3D, 0xCA, 0xE5]
      = some ⟨5, .condemn 899 6 6⟩ := by decide +kernel

theorem test_frame_enable_set :
    readFrame [0x26, 0x04, 0x00, 0x02, 0x00, 0x0F, 0xA0, 0x70] = some ⟨4, .attnEnableSet 15⟩ := by decide +kernel

/-- Bad frames: a wrong check, a bad escape, a payload length that is not the kind's, a kind that names no request. -/
theorem test_frame_bad : readFrame [0x10, 0x01, 0x10, 0x00, 0xAB, 0x25] = none
    ∧ readFrame [0x10, 0xCA, 0x10, 0x00, 0xAB, 0x24] = none
    ∧ readFrame (wireFrame 0x10 1 0 [0]) = none ∧ readFrame (wireFrame 0x29 1 0 []) = none := by decide +kernel

/-! ### Layouts of what is sent (section 9.7) -/

/-- A retire record of section 7.6: row 800, lane 2, REJECT, UNKNOWN, SEAL_LOW without station; bits 4 and 3 of octet 4
and bits 3 and 2 of the last are not named. -/
theorem test_layout_retire_record :
    (retireOctets ⟨800, 2, 3, 4410, .reject, some .sealLow, none, some .unknown, 7, 9, ⟨0, 0, false, false, none, false⟩,
      [4], [1]⟩).map (fun o => (o.value, o.unnamed))
      = [(0, 0), (0, 0), (3, 0), (0x20, 0), (0xA4, 0x18), (3, 0), (0x11, 0), (0x3A, 0), (0xBF, 0), (0, 0), (0, 0), (0, 0),
        (7, 0), (0, 0), (0, 0), (0, 0), (9, 0), (0, 0), (0, 0), (0, 0), (0, 0), (0, 0), (1, 0), (0x41, 0x0C)] := by
  decide +kernel

/-- A TOPUP line of lane 1, cavity 2, missing 2, class 9: 01 0010 0010 001001. -/
theorem test_layout_topup_brief : briefOctets (.topup 200 3 [⟨1, 2, 2, 9⟩])
    = named [4, 0, 0, 0, 200, 3, 1, 0x48, 0x89] := by decide +kernel

/-- The longest card record: 12 cavities with 4 placement entries each, 127 octets with the kind octet. -/
theorem test_layout_longest :
    (let cav : Cavity := ⟨none, List.replicate 4 ⟨.p1, 1⟩, none, 0, none, none, 4⟩
     (messageOctets 0 (.response 1 (.cardQuery ⟨1, 0, 0, { Card.fresh 0 1 with cavities := List.replicate 12 cav },
      some 1, none⟩))).length) = 127 := by decide +kernel

/-- The RESPONSE to START of section 1.8: RUN, E 8, S1 4. -/
theorem test_layout_start_response :
    messageOctets 0 (.response 1 (.start .run (some 8) (some 4))) = named [0x10, 1, 8, 4] := by decide +kernel

/-- A REFUSAL of a PLACEMENT, LATE at offset 3 (section 2.5). -/
theorem test_layout_refusal : messageOctets 0 (.refusal 1 0x02 .late 3) = named [2, 4, 3] := by decide +kernel

/-! ### Reset and autoload -/

theorem test_master_reset : after (exec .masterReset (online 5 four)) = State.reset := by decide +kernel

theorem test_reset_release : (after (exec .resetRelease State.reset)).resetHeld = false
    ∧ (after (exec .resetRelease State.reset)).load = .loading := by decide +kernel

/-- A blank device (R167): READY, no LOAD_FAULT. -/
theorem test_signature_blank : (after (exec (.autoloadSignatureRead [0xFF, 0xFF]) (reading 0))).load = .ready
    ∧ ((after (exec (.autoloadSignatureRead [0xFF, 0xFF]) (reading 0))).port .p7).latched = 0 := by decide +kernel

/-- Section 11.4, block 2: interval 150, notify 300 stored as 255, hold 2 stored as 4. -/
theorem test_block_levels :
    (let t := after (exec (.autoloadBlockRead [4, 6, 0, 150, 0x01, 0x2C, 0, 2]) (reading 11))
     (t.interval, t.notify, t.holdLevel, t.loadAddr)) = (150, 255, 4, 19) := by decide +kernel

/-- Section 11.4, block 3: a recipe with lane mask 0 stops the load, and LOAD_FAULT is on every port. -/
theorem test_block_refused :
    (let t := after (exec (.autoloadBlockRead [2, 23, 3, 1, 0, 0, 0, 1, 0, 0, 0, 0, 0, 0, 0, 0, 0, 0, 1, 1, 1, 0, 255, 0, 0])
        { reading 19 with interval := 150, stations := table })
     (t.interval, t.load, t.stations, (t.port .p3).latched)) = (100, .ready, defaultStations, 0x080) := by decide +kernel

theorem test_terminator_default_recipe :
    (after (exec .autoloadTerminator { reading 5 with loadSelected := some 3 })).load = .ready
    ∧ ((after (exec .autoloadTerminator { reading 5 with loadSelected := some 3 })).port .p0).latched = 0x080 := by
  decide +kernel

/-! ### Pins, time and links -/

/-- Section 1.8: a pulse 40 ms after the last accepted one is a glitch. -/
theorem test_pulse_glitch :
    (let t := after (exec .indexPulse { ready with sinceLast := some 40 })
     (t.indexGlitches, t.advancesDue, (t.port .p2).latched)) = (1, 0, 0x020) := by decide +kernel

theorem test_pulse_first : (after (exec .indexPulse { ready with timeTag := 9 })).lastIndex = some 9 := by decide +kernel

theorem test_tick_wraps : (after (exec .timeTagTick { ready with timeTag := 0xFFFFFFFF })).timeTag = 0
    ∧ (after (exec .timeTagTick { ready with sinceLast := some 2000 })).sinceLast = some 2000 := by decide +kernel

theorem test_link_down :
    (let s := { online 5 four with ports := PerPort.all { withMessages 3 with quiet := 10 } }
     let t := after (exec (.linkDown .p1) s)
     ((t.port .p1).link, (t.port .p1).outbound, (t.station .p1).mode, t.line)) = (.down, [], .offline, .run) := by
  decide +kernel

theorem test_frame_receive_up :
    (let t := after (exec (.frameReceive .p7 [0x10, 0x01, 0x10, 0x00, 0xAB, 0x24]) ready)
     ((t.port .p7).link, (t.port .p7).inbound, (t.port .p7).outbound)) = (.up, [⟨1, .start⟩], [.credit]) := by
  decide +kernel

theorem test_frame_receive_bad :
    (let t := after (exec (.frameReceive .p7 [0x10, 0x01, 0x10, 0x00, 0xAB, 0x25]) ready)
     ((t.port .p7).link, (t.port .p7).linkErrors, (t.port .p7).latched)) = (.down, 1, 0x800) := by decide +kernel

theorem test_idle_fill :
    ((after (exec (.idleFillReceive .p1) { ready with ports := PerPort.all { withMessages 0 with quiet := 9 } })).port
      .p1).quiet = 0 := by decide +kernel

/-- An answer is stamped with its request's tag and with the free space of the inbound queue. -/
theorem test_send_start :
    (let b := { withMessages 0 with outbound := [.response 9 (.stopForming .drain)], inbound := [⟨1, .start⟩] }
     ((after (exec (.frameSendStart .p7) { ready with ports := PerPort.all b })).port .p7).sending)
      = some ⟨0x40, 9, 15, [0x11, 2]⟩ := by decide +kernel

theorem test_send_complete :
    (let b := { withMessages 8 with sending := some ⟨0x44, 0, 16, [0, 0]⟩, attnPending := true }
     let t := (after (exec (.frameSendComplete .p7) { ready with ports := PerPort.all b })).port .p7
     (t.outbound.length, t.attnPending, t.sending)) = (8, false, none) := by decide +kernel

/-- The worked case of weighted grants: phases 0 to 7 name P7, P1, P2, P3, P7, P5, P6, P7. -/
def weighted (phase : Fin 32) : State :=
  let waiting := { withMessages 0 with inbound := [⟨1, .lineStatus⟩] }
  { ready with
    ports := (((PerPort.all PortBlock.default).set .p1 waiting).set .p4 waiting).set .p7 waiting
    arbiter := (defaultArbiter.set 0 .p7).set 4 .p7
    phase := phase }

theorem test_grant_phase_one : (after (exec .arbiterGrant (weighted 1))).engine = some ⟨.p1, 1, .lineStatus⟩
    ∧ (after (exec .arbiterGrant (weighted 1))).phase = 2 := by decide +kernel

theorem test_grant_phase_two : (after (exec .arbiterGrant (weighted 2))).engine = some ⟨.p7, 1, .lineStatus⟩
    ∧ (after (exec .arbiterGrant (weighted 2))).phase = 5 := by decide +kernel

/-! ### The advance -/

/-- Section 1.8, the first pulse: row 1 at offset 0, CARDS_FORMED 4, use count 1. -/
theorem test_advance_forms :
    (let t := after (exec .advance (lineWith .run 0 []))
     (t.rows.map fun r => (r.number, r.offset, r.cards.length), t.cardsFormed, t.useCount 3, t.line))
      = ([(1, 0, 4)], 4, 1, .run) := by decide +kernel

/-- The cards of section 7.6 at the PUNCH close: lane 0 PASS, lane 1 condemned at S1, lane 2 SEAL_LOW, lane 3 SEAL_HIGH. -/
def judged : List Card :=
  [{ Card.fresh 0 1 with state := .frozen, verdict := some .pass, discharge := some .goodChute },
    { Card.fresh 1 1 with state := .frozen, verdict := some .reject, discharge := some .rejectChute, reason := some .refillExhausted, condemnOffset := some 10 },
    { Card.fresh 2 1 with state := .frozen, verdict := some .reject, reason := some .sealLow, condemnOffset := some 12 },
    { Card.fresh 3 1 with state := .frozen, verdict := some .reject, discharge := some .jammed, reason := some .sealHigh, condemnOffset := some 12 }]

/-- Section 7.6, retirement in DRAIN: the fault record of lane 2, JAM on every port, four records, and IDLE. -/
theorem test_advance_retires :
    (let t := after (exec .advance { online 13 judged with line := .drain })
     (t.fault, t.hold, (t.port .p6).latched, t.line)) = (some ⟨100, 2, some .unknown⟩, true, 0x050, .idle) := by
  decide +kernel

theorem test_advance_records :
    ((after (exec .advance { online 13 judged with line := .drain })).trace.map fun r => (r.lane, r.verdict, r.discharge))
      = [(0, .pass, some .goodChute), (1, .reject, some .rejectChute), (2, .reject, some .unknown),
          (3, .reject, some .jammed)] := by decide +kernel

/-- Section 7.6, the freeze: dose 1075 passes, 0 is SEAL_LOW, 1500 SEAL_HIGH. -/
theorem test_freeze :
    ([1075, 0, 1500].map fun dose =>
      let c := freezeCard recipe 12 { Card.fresh 0 1 with state := .judged, summary := ⟨2, dose, false, false, none, false⟩ }
      (c.reason, c.verdict, c.condemnOffset))
      = [(none, some .pass, none), (some .sealLow, some .reject, some 12), (some .sealHigh, some .reject, some 12)] := by
  decide +kernel

/-- Section 5.9: OVER_COUNT from the last cavity; with 4 items there, SHORT_COUNT. -/
theorem test_judgement :
    (let specs : List CavitySpec := [⟨1, 2, 0, none, true, false⟩, ⟨1, 4, 0, none, true, false⟩, ⟨1, 1, 0, none, false, false⟩,
        ⟨1, 3, 1, none, false, false⟩]
     let cavs (n : Nat) : List Cavity := [⟨none, [], none, 0, none, none, 2⟩, ⟨none, [], some ⟨.p2, 1, 2, .ok⟩, 1, none, none, 3⟩,
        ⟨none, [], none, 0, none, none, 0⟩, ⟨none, [], none, 0, none, none, n⟩]
     [5, 4].map fun n => judgedReason { recipe with cavities := specs } { Card.fresh 0 4 with cavities := cavs n })
      = [some .overCount, some .shortCount] := by decide +kernel

/-- Section 2.5: the close of a required FEED station condemns for a clear verify flag and not for a set one. -/
theorem test_close_feed :
    (let r := { recipe with cavities := [⟨1, 2, 0, some .p1, false, false⟩, ⟨1, 2, 0, some .p1, true, false⟩] }
     let placed : List Cavity := [⟨none, [⟨.p1, 2⟩], none, 0, none, none, 2⟩, Cavity.fresh]
     [Cavity.fresh :: [Cavity.fresh], placed].map fun cavs =>
      let c := closeCard (online 3 []) .p1 r 3 { Card.fresh 0 2 with cavities := cavs }
      (c.reason, c.station, c.condemnOffset, c.cavities.map (·.placements)))
      = [(some .noReport, some .p1, some 3, [[⟨.p1, 0⟩], [⟨.p1, 0⟩]]), (none, none, none, [[⟨.p1, 2⟩], [⟨.p1, 0⟩]])] := by
  decide +kernel

/-- Section 5.6: at the TOPUP arrival the cavity with count 3 of 4 is ordered, one missing. -/
theorem test_topup_arrival :
    (let cav : Cavity := ⟨none, [⟨.p1, 4⟩], some ⟨.p2, 21, 3, .ok⟩, 0, none, none, 3⟩
     let x := arriveAt .p3 (rowAt 8 [{ Card.fresh 0 1 with cavities := [cav] }]) (online 7 [])
     (x.1.cards.map (fun c => c.cavities.map fun v => (v.attempts, v.refill, v.orderedBy)), (x.2.port .p3).outbound))
      = ([[(1, some .ordered, some .p3)]], [.brief (.topup 100 3 [⟨0, 0, 1, 21⟩])]) := by decide +kernel

/-! ### Reports -/

theorem test_form_splice_first :
    ((cardOf 1 (exec (.formResult .p0 1 100 1 1 [2]) (online 0 four))).map fun c => (c.reason, c.station, c.condemnOffset))
      = some (some .splice, some .p0, some 0) := by decide +kernel

theorem test_form_malformed :
    answerAt .p0 (exec (.formResult .p0 1 100 1 0 [1, 1]) (online 0 four)) = some (.refusal 1 0x01 .malformed 0) := by
  decide +kernel

theorem test_placement_clamps :
    ((cardOf 2 (exec (.placement .p1 1 100 2 [⟨0, 200⟩]) (online 1 four))).map fun c =>
      (c.cavities.map (fun v => (v.placements, v.count)), c.reported.get .p1)) = some ([([⟨.p1, 15⟩], 15)], true) := by
  decide +kernel

/-- Section 2.5: LATE with the row's offset, one offset behind the window. -/
theorem test_placement_late :
    answerAt .p1 (exec (.placement .p1 1 100 2 [⟨0, 2⟩]) (online 2 four)) = some (.refusal 1 0x02 .late 2) := by
  decide +kernel

/-- Section 5.6: the camera's 3 supersedes the feeder's 4. -/
theorem test_inspection_supersedes :
    (let c := { Card.fresh 0 1 with cavities := [⟨none, [⟨.p1, 4⟩], none, 0, none, none, 4⟩] }
     (cardOf 0 (exec (.inspection .p2 1 100 0 [⟨0, 21, 3, 0⟩]) (online 5 [c]))).map fun c =>
      (c.reason, c.cavities.map (·.count))) = some (none, [3]) := by decide +kernel

/-- Section 4.8: the fault of the lower cavity condemns, whatever the order of the entries. -/
theorem test_inspection_cavity_order :
    (let specs : List CavitySpec := [⟨12, 2, 0, none, false, false⟩, ⟨12, 2, 0, none, false, false⟩, ⟨30, 2, 0, none, true, true⟩]
     let c := applyInspection table .p2 3 { recipe with cavities := specs } [⟨2, 30, 2, 1⟩, ⟨0, 12, 2, 0⟩, ⟨1, 12, 3, 0⟩]
      (Card.fresh 0 3)
     (c.reason, c.station, c.cavities.map (·.count))) = (some .overCount, some .p2, [2, 3, 2]) := by decide +kernel

/-- Section 6.6: three strikes, the third clamped. -/
theorem test_seal_hits :
    (let c := applySealHit .p4 11 recipe true 3150 5200 300 (applySealHit .p4 10 recipe true 1790 900 300
      (applySealHit .p4 10 recipe true 1805 900 310 (Card.fresh 2 1)))
     (c.summary, c.tallies.get .p4, c.reason)) = (⟨3, 10075, false, true, some 300, false⟩, 3, none) := by decide +kernel

/-- Section 4.10: the fifth strike is refused MALFORMED. -/
theorem test_seal_limit :
    (let c := { Card.fresh 1 1 with tallies := (PerPort.all 0).set .p4 4 }
     answerAt .p4 (exec (.sealHit .p4 1 100 1 1 1805 900 310) (online 11 [c]))) = some (.refusal 1 0x04 .malformed 0) := by
  decide +kernel

theorem test_discharge :
    (cardOf 0 (exec (.discharge .p5 1 100 0 3) (online 13 four))).map (·.discharge) = some (some .jammed)
    ∧ answerAt .p5 (exec (.discharge .p5 1 100 0 4) (online 13 four)) = some (.refusal 1 0x05 .badValue 0) := by
  decide +kernel

/-! ### Commands -/

theorem test_start :
    (let o := exec (.start .p7 1) (lineWith .idle 0 [])
     (answerAt .p7 o, (after o).line, ((after o).port .p2).latched))
      = (some (.response 1 (.start .run (some 14) (some 10))), .run, 0x010) := by decide +kernel

/-- Without a selected recipe check 8 is the first that fails. -/
theorem test_start_check_eight :
    answerAt .p7 (exec (.start .p7 1) { lineWith .idle 0 [] with selected := none })
      = some (.refusal 1 0x10 .configInvalid 8) := by decide +kernel

theorem test_stop_forming :
    answerAt .p7 (exec (.stopForming .p7 1) (online 5 four)) = some (.response 1 (.stopForming .drain))
    ∧ answerAt .p7 (exec (.stopForming .p7 1) (lineWith .run 0 [])) = some (.response 1 (.stopForming .idle)) := by
  decide +kernel

theorem test_select_recipe :
    answerAt .p7 (exec (.selectRecipe .p7 1 5) (online 5 four)) = some (.refusal 1 0x12 .recipeInvalid 0)
    ∧ (after (exec (.selectRecipe .p7 1 3) (online 5 four))).selected = some 3 := by decide +kernel

theorem test_purge :
    (let o := exec (.purge .p7 1) (online 5 four)
     (answerAt .p7 o, (after o).line, (after o).cardsPurged, (after o).useCount 3))
      = (some (.response 1 (.purge 1 4)), .idle, 4, 0) := by decide +kernel

/-- A fresh row of recipe 3. -/
def freshRow (n : Word) (o : Nat) (mask : BitVec 4) : Row := ⟨n, o, 3, mask, 0, (lanesOf mask).map (Card.fresh · 1)⟩

/-- Section 7.8: rows 900 to 903 at offsets 3 to 0, row 900's lane 1 condemned FORM_FAULT. -/
def racing : State :=
  let spoiled : List Card := four.map fun c => if c.lane = 1 then Card.condemn c .formFault (some .p0) 0 else c
  lineWith .run 903 [⟨900, 3, 3, 15, 0, spoiled⟩, freshRow 901 2 15, freshRow 902 1 3, freshRow 903 0 3]

/-- Section 7.8: CONDEMN from 899, count 6, mask 6: rows 4, condemned 5, not applied 1. -/
theorem test_condemn_range :
    answerAt .p7 (exec (.condemn .p7 1 899 6 6) racing) = some (.response 1 (.condemn 4 5 1)) := by decide +kernel

theorem test_release_hold :
    (let o := exec (.releaseHold .p7 1) { ready with fault := some ⟨800, 2, some .unknown⟩ }
     (answerAt .p7 o, (after o).hold)) = (some (.response 1 (.releaseHold (some ⟨800, 2, some .unknown⟩))), false) := by
  decide +kernel

theorem test_station_mode_set :
    ((after (exec (.stationModeSet .p0 1 0 1) ready)).station .p0).mode = .active
    ∧ answerAt .p0 (exec (.stationModeSet .p0 1 1 1) ready) = some (.refusal 1 0x16 .forbidden 0) := by decide +kernel

/-- R150: with its outbound queue full a command stays blocked in the inbound queue, and the next report passes it. -/
theorem test_station_mode_set_blocked :
    (let blocked := after (exec (.stationModeSet .p1 1 1 0) { online 1 four with ports := PerPort.all (withMessages 8) })
     let t := after (exec (.placement .p1 2 100 2 [⟨0, 2⟩]) blocked)
     ((blocked.port .p1).inbound, (blocked.station .p1).mode, (t.port .p1).inbound,
      (cardOf 2 (.next t)).map fun c => c.cavities.map (·.count)))
      = ([⟨1, .stationModeSet 1 0⟩], .active, [⟨1, .stationModeSet 1 0⟩], some [2]) := by decide +kernel

theorem test_station_write :
    (after (exec (.stationWrite .p7 1 3 ⟨4, 8, 9, 1, 1, 5⟩) ready)).station .p3
      = ⟨.topup, 8, 8, true, .active, ⟨true, false, true⟩⟩
    ∧ answerAt .p7 (exec (.stationWrite .p7 1 3 ⟨4, 63, 1, 1, 1, 0⟩) ready) = some (.refusal 1 0x17 .badValue 0) := by
  decide +kernel

/-- Section 3.10, write 4: the clamped entry. -/
theorem test_recipe_write :
    (let c : CavityArg := ⟨5, 2, 0, 255, 0, 0⟩
     let r := (after (exec (.recipeWrite .p7 1 9 ⟨1, 0, 1, 4, 0, 5, 3200, 900, 1400, 0,
      [c, c, { c with overTol := 6 }, { c with feeder := 11 }]⟩) ready)).recipe 9
     (r.refillLimit, r.tAct, r.cavities.map fun c => (c.overTol, c.feeder)))
      = (2, 3000, [(0, none), (0, none), (3, none), (0, none)]) := by decide +kernel

theorem test_recipe_write_in_use :
    answerAt .p7 (exec (.recipeWrite .p7 1 3 ⟨1, 0, 1, 1, 0, 0, 0, 0, 0, 0, []⟩) (online 5 four))
      = some (.refusal 1 0x18 .inUse 0) := by decide +kernel

theorem test_interval_clamped : (after (exec (.indexIntervalSet .p7 1 19) ready)).interval = 20
    ∧ (after (exec (.indexIntervalSet .p7 1 2001) ready)).interval = 2000 := by decide +kernel

theorem test_levels_clamped :
    (let t := after (exec (.traceLevelsSet .p7 1 256 3) ready)
     (t.notify, t.holdLevel)) = (255, 4) := by decide +kernel

theorem test_arbiter_write :
    ((after (exec (.arbiterWrite .p7 1 ((Vector.replicate 32 7).set 1 8)) ready)).arbiter.toList.take 2) = [.p7, .p0] := by
  decide +kernel

/-- A retire record. -/
def record (n : Word) : RetireRecord :=
  ⟨n, 0, 3, 0, .pass, none, none, some .goodChute, 0, 0, ⟨2, 1075, false, false, some 300, false⟩, [4], [0]⟩

theorem test_retire_read :
    (let o := exec (.retireRead .p7 1 2) { ready with trace := [record 1, record 2, record 3] }
     (answerAt .p7 o, (after o).cardsRead)) = (some (.response 1 (.retireRead 1 [record 1, record 2])), 2) := by
  decide +kernel

theorem test_line_status :
    (match answerAt .p1 (exec (.lineStatus .p1 1) (online 5 four)) with
      | some (.response _ (.lineStatus r)) => (r.rowCount, r.ends, r.exitOffset)
      | _ => (0, none, none)) = (1, some (100, 100), some 14) := by decide +kernel

/-- A port with a report waiting and some messages to send. -/
def busy (n : Nat) : State :=
  { online 1 four with
    ports := PerPort.all { withMessages n with inbound := [⟨4, .placement 100 2 [⟨0, 2⟩]⟩] } }

/-- R150: a query sent after a report that waits is not answered; the report is granted first. -/
theorem test_line_status_waits :
    (let t := after (exec (.lineStatus .p0 1) (busy 0))
     (t.engine, (t.port .p0).inbound, (t.port .p0).outbound))
      = (some ⟨.p0, 4, .placement 100 2 [⟨0, 2⟩]⟩, [⟨1, .lineStatus⟩], []) := by decide +kernel

theorem test_station_read :
    answerAt .p0 (exec (.stationRead .p0 1 7) ready) = some (.response 1 (.stationRead [⟨.p7, Station.supervisor, .down⟩]))
    ∧ answerAt .p0 (exec (.stationRead .p0 1 8) ready) = some (.refusal 1 0x1E .badValue 0) := by decide +kernel

theorem test_recipe_read :
    answerAt .p0 (exec (.recipeRead .p0 1 3) (online 5 four)) = some (.response 1 (.recipeRead 3 recipe 1 true)) := by
  decide +kernel

theorem test_card_query :
    answerAt .p0 (exec (.cardQuery .p0 1 101 0) (online 5 four)) = some (.refusal 1 0x20 .unknownRow 0)
    ∧ answerAt .p0 (exec (.cardQuery .p0 1 100 4) (online 5 four)) = some (.refusal 1 0x20 .malformed 0) := by
  decide +kernel

theorem test_row_query :
    answerAt .p0 (exec (.rowQuery .p0 1 5) (online 5 [Card.fresh 0 1]))
      = some (.response 1 (.rowQuery 100 5 3 15 7 [⟨0, .opened, none, none⟩]))
    ∧ answerAt .p0 (exec (.rowQuery .p0 1 64) (online 5 four)) = some (.refusal 1 0x21 .badValue 0) := by decide +kernel

/-- Section 8.7: at occupancy 240 the free space is 16 and the hold condition false; at 241 it is true. -/
theorem test_trace_status :
    ([240, 241].map fun n => match answerAt .p0 (exec (.traceStatus .p0 1) { ready with trace := List.replicate n (record 1) }) with
      | some (.response _ (.traceStatus r)) => (r.free, r.ready, r.hold)
      | _ => (0, false, false)) = [(16, true, false), (15, true, true)] := by decide +kernel

theorem test_counters_read :
    answerAt .p0 (exec (.countersRead .p0 1 7) { ready with cardsFormed := 1020, cardsDropped := 2, cardsRead := 730 })
      = some (.response 1 (.countersRead [1020, 0, 2, 730, 0, 0, 0, 0, 0, 0, 0, 0])) := by decide +kernel

/-- The query's own grant at phase 0 has moved the pointer to 1. -/
theorem test_arbiter_read :
    answerAt .p0 (exec (.arbiterRead .p0 1) ready) = some (.response 1 (.arbiterRead defaultArbiter 1)) := by decide +kernel

/-- Section 10.5: TRACE_READY is true, JAM and INDEX_GLITCH are latched; JAM is cleared, TRACE_READY is not. -/
def watched : State :=
  { ready with
    trace := List.replicate 64 (record 1)
    ports := PerPort.all { withMessages 0 with latched := 0x060, enables := 0x04F } }

theorem test_attn_status_read :
    answerAt .p7 (exec (.attnStatusRead .p7 1) watched) = some (.response 1 (.attnStatusRead 0x061 0x04F 0x041)) := by
  decide +kernel

theorem test_attn_clear :
    answerAt .p7 (exec (.attnClear .p7 1 0x041) watched) = some (.response 1 (.attnClear 0x021 0x001)) := by decide +kernel

/-- An enable that makes the masked status non-empty: the RESPONSE, then the ATTENTION (R159). -/
theorem test_attn_enable_set :
    ((after (exec (.attnEnableSet .p7 1 0x020) { watched with ports := PerPort.all { withMessages 0 with latched := 0x020 } })).port
      .p7).outbound = [.response 1 (.attnEnableSet 0x020 0x020), .attention] := by decide +kernel

theorem test_attn_enable_clear :
    answerAt .p7 (exec (.attnEnableClear .p7 1 0x001) watched) = some (.response 1 (.attnEnableClear 0x04E 0x040))
    ∧ answerAt .p7 (exec (.attnEnableClear .p7 1 0x1000) watched) = some (.refusal 1 0x27 .badValue 0) := by decide +kernel

/-! ### The step -/

theorem test_step_front : step { State.reset with pending := [.resetRelease, .indexPulse] }
    = exec .resetRelease { State.reset with pending := [.indexPulse] } := rfl

/-! ### Witnesses: states and operands that meet the hypotheses of each statement, clause by clause -/

/-- A request of every permission's kind, in service. -/
theorem witness_in_service (c : Instr) (r : Request) (h : requestOf c = some r) (s : State) (h1 : s.resetHeld = false)
    (h2 : s.load = .ready) : InService r (holding c s) := ⟨h1, h2, h⟩

theorem witness_StepRunsFrontCommand : ready.pending = [] := rfl

theorem witness_RequestServiceCases :
    State.reset.resetHeld = true ∧ Instr.indexPulse ≠ .masterReset ∧ Instr.indexPulse ≠ .resetRelease ∧
    requestOf (.lineStatus .p0 1) = some ⟨.p0, 1, .lineStatus⟩ ∧
    (holding (.lineStatus .p0 1) (reading 0)).resetHeld = false ∧ (holding (.lineStatus .p0 1) (reading 0)).load = .loading ∧
    (holding (.lineStatus .p0 1) (reading 0)).engine = some ⟨.p0, 1, .lineStatus⟩ ∧
    ReqBody.lineStatus.wellFormed = true ∧ ready.engine = none ∧ ReqBody.lineStatus.posted = false ∧
    (⟨1, .lineStatus⟩ : InReq) ∉ (ready.port .p0).inbound ∧
    (⟨1, .lineStatus⟩ : InReq) ∈ ((weighted 1).port .p1).inbound ∧
    exec .arbiterGrant (weighted 1) = .next (after (exec .arbiterGrant (weighted 1))) ∧
    (after (exec .arbiterGrant (weighted 1))).engine = some ⟨.p1, 1, .lineStatus⟩ ∧
    (after (exec .arbiterGrant (weighted 2))).engine ≠ some ⟨.p1, 1, .lineStatus⟩ ∧
    ((busy 0).port .p0).inbound = [⟨4, .placement 100 2 [⟨0, 2⟩]⟩] ∧
    (⟨4, .placement 100 2 [⟨0, 2⟩]⟩ : InReq) ≠ ⟨1, .lineStatus⟩ ∧
    8 ≤ ((busy 8).port .p0).outbound.length + ((busy 8).port .p0).reserved ∧
    (holding (.traceStatus .p0 1) ready).engine = some ⟨.p0, 1, .traceStatus⟩ ∧
    (⟨.p0, 1, .traceStatus⟩ : Request) ≠ ⟨.p0, 1, .lineStatus⟩ := by
  refine ⟨rfl, by decide, by decide, rfl, rfl, rfl, rfl, rfl, rfl, rfl, by decide +kernel, by decide +kernel, rfl,
    by decide +kernel, by decide +kernel, rfl, by decide, by decide +kernel, rfl, by decide⟩

theorem witness_PermissionRefusals :
    InService ⟨.p0, 1, .start⟩ (holding (.start .p0 1) ready) ∧
    InService ⟨.p0, 1, .arbiterWrite (Vector.replicate 32 0)⟩ (holding (.arbiterWrite .p0 1 (Vector.replicate 32 0)) ready) ∧
    InService ⟨.p0, 1, .retireRead 1⟩ (holding (.retireRead .p0 1 1) ready) ∧
    InService ⟨.p0, 1, .stationModeSet 1 1⟩ (holding (.stationModeSet .p0 1 1 1) ready) ∧
    permissionOf .start = some (·.operate) ∧ permissionOf (.retireRead 1) = some (·.trace) ∧
    (ready.station .p0).perms = ⟨false, false, false⟩ ∧ (1 : Octet).toNat ≠ portNat .p0 :=
  ⟨⟨rfl, rfl, rfl⟩, ⟨rfl, rfl, rfl⟩, ⟨rfl, rfl, rfl⟩, ⟨rfl, rfl, rfl⟩, rfl, rfl, rfl, by decide⟩

theorem witness_AnswersAndOffers :
    (withMessages 7).outbound.length + (withMessages 7).reserved < 8 ∧
    8 ≤ (withMessages 8).outbound.length + (withMessages 8).reserved ∧
    8 ≤ (withMessages 7).reserve.outbound.length + (withMessages 7).reserve.reserved ∧
    Message.attention ∈ (withMessages 1).waiting ∧ Message.credit ∉ (withMessages 7).waiting ∧
    (withMessages 0).attnPending = false ∧ Message.attention ∉ (withMessages 0).waiting ∧
    Message.credit ∈ { withMessages 0 with outbound := [Message.credit] }.waiting ∧
    { withMessages 8 with attnPending := true }.attnPending = true ∧
    Message.attention ∉ { withMessages 0 with outbound := List.replicate 8 Message.credit }.waiting := by decide +kernel

theorem witness_LoadBeginsAndEnds_signature : State.reset.resetHeld = true ∧ (reading 0).resetHeld = false ∧ (reading 0).load = .loading ∧
    (reading 0).loadAddr = 0 ∧ ([0x4D, 0x27] : List Octet).take 2 = [0x4D, 0x27] ∧
    ([0x4D] : List Octet).take 2 ≠ [0x4D, 0x27] := by decide +kernel

/-- A recipe argument with one cavity that is accepted. -/
def goodRecipe : RecipeArg := ⟨1, 0, 15, 1, 1, 2, 3000, 65535, 65535, 1000, [⟨63, 15, 3, 255, 1, 1⟩]⟩

theorem witness_GoodBlocksApplied :
    (ReadingBlocks (reading 2039) ∧ stationOf ⟨7, 62, 0, 1, 1, 7⟩ = some ⟨.supervisor, 62, 1, true, .active, ⟨true, true, true⟩⟩
      ∧ (reading 2039).loadAddr + 9 ≤ 2048) ∧
    (ReadingBlocks (reading 2023) ∧ recipeRefusal goodRecipe = none
      ∧ (reading 2023).loadAddr + (19 + 6 * goodRecipe.cavities.length) ≤ 2048) ∧
    (ReadingBlocks (reading 2014) ∧ (reading 2014).loadAddr + 34 ≤ 2048) ∧
    (ReadingBlocks (reading 2040) ∧ (reading 2040).loadAddr + 8 ≤ 2048) ∧
    ReadingBlocks (reading 2045) ∧ (reading 2045).loadAddr + 3 ≤ 2048 := by
  unfold ReadingBlocks; decide +kernel

/-- A bad block of each kind: no octet, a type octet alone, a body cut off, a body beyond address 2047, an unknown type, a
station block of length 6 and one for port 8, a recipe block of ID 16 and one of an empty list, and wrong lengths. -/
theorem witness_RefusedBlocksRestoreDefaults :
    ReadingBlocks (reading 2) ∧ ReadingBlocks (reading 2046) ∧
    RefusedBlock (reading 2) [] ∧ RefusedBlock (reading 2) [6] ∧ RefusedBlock (reading 2) [5, 1] ∧
    RefusedBlock (reading 2046) [5, 1, 3] ∧ RefusedBlock (reading 2) [6, 0] ∧
    RefusedBlock (reading 2) [1, 6, 0, 1, 0, 1, 1, 1] ∧ RefusedBlock (reading 2) [1, 7, 8, 1, 0, 1, 1, 1, 0] ∧
    RefusedBlock (reading 2) [2, 1, 16] ∧ RefusedBlock (reading 2) [2, 1, 15] ∧ RefusedBlock (reading 2) [3, 0] ∧
    RefusedBlock (reading 2) [4, 0] ∧ RefusedBlock (reading 2) [5, 0] := by
  refine ⟨⟨rfl, rfl, by decide⟩, ⟨rfl, rfl, by decide⟩, trivial, by unfold RefusedBlock; decide, ?_⟩
  refine ⟨⟨by decide, .inl (by decide)⟩, ⟨by decide, .inr (.inl (by decide))⟩, ⟨by decide, .inr (.inr (.inl (by decide)))⟩,
    ⟨by decide, .inr (.inr (.inr (.inl ⟨rfl, .inl (by decide)⟩)))⟩,
    ⟨by decide, .inr (.inr (.inr (.inl ⟨rfl, .inr (.inl (by decide))⟩)))⟩,
    ⟨by decide, .inr (.inr (.inr (.inr (.inl ⟨rfl, .inr (.inl (by decide))⟩))))⟩,
    ⟨by decide, .inr (.inr (.inr (.inr (.inl ⟨rfl, .inr (.inr fun a h => ?_)⟩))))⟩,
    ⟨by decide, .inr (.inr (.inr (.inr (.inr (.inl ⟨rfl, by decide⟩)))))⟩,
    ⟨by decide, .inr (.inr (.inr (.inr (.inr (.inr (.inl ⟨rfl, by decide⟩))))))⟩,
    ⟨by decide, .inr (.inr (.inr (.inr (.inr (.inr (.inr ⟨rfl, by decide⟩))))))⟩⟩
  cases h

theorem witness_LoadBeginsAndEnds_terminator :
    ReadingBlocks (reading 2047) ∧ (reading 2047).loadAddr < 2048 ∧ (reading 2047).loadSelected = none ∧
    (15 : Octet).toNat = (15 : RecipeId).val ∧
    ({ reading 2047 with recipes := defaultRecipes.set 15 recipe }.recipe 15).valid = true ∧
    ((reading 2047).recipe 15).valid = false ∧ 15 < (16 : Octet).toNat ∧
    ReadingBlocks (reading 2048) ∧ 2048 ≤ (reading 2048).loadAddr := by
  unfold ReadingBlocks; decide +kernel

theorem witness_IndexPulseFilter : ready.resetHeld = false ∧ (reading 0).load = .loading ∧ ready.load = .ready ∧
    ready.sinceLast = none ∧ { ready with sinceLast := some 100 }.interval ≤ 100 ∧
    { ready with sinceLast := some 99 }.sinceLast = some 99 ∧ 99 < ready.interval := by decide +kernel

/-- A glitch sets bit 5 beside the events already latched (section 9.7). -/
theorem test_glitch_latched :
    ((after (exec .indexPulse { ready with
      sinceLast := some 99, ports := PerPort.all { withMessages 0 with latched := 0x040 } })).port .p3).latched = 0x060 := by
  decide +kernel

theorem witness_TimersAndLinkDown : ready.resetHeld = false ∧ (ready.port .p0).link = .down ∧
    ({ ready with ports := PerPort.all { withMessages 0 with quiet := 10 } }.port .p0).link = .up ∧
    10 ≤ ({ ready with ports := PerPort.all { withMessages 0 with quiet := 10 } }.port .p0).quiet ∧
    ({ ready with ports := PerPort.all { withMessages 0 with quiet := 9 } }.port .p0).quiet < 10 := by decide +kernel

theorem witness_FrameReceiveOutcomes : ready.resetHeld = false ∧ readFrame [0x10] = none ∧
    readFrame [0x10, 0x01, 0x10, 0x00, 0xAB, 0x24] = some ⟨1, .start⟩ ∧
    { withMessages 0 with inbound := List.replicate 15 (⟨1, .start⟩ : InReq) }.inbound.length < 16 ∧
    16 ≤ { withMessages 0 with inbound := List.replicate 16 (⟨1, .start⟩ : InReq) }.inbound.length := by decide +kernel

theorem witness_SendingFrames :
    (let s := { ready with ports := (PerPort.all (withMessages 1)).set .p1 { withMessages 1 with sending := some ⟨0x43, 0, 16, []⟩ } }
     (s.port .p0).link = .up ∧ (s.port .p0).sending = none ∧ (s.port .p0).outbound = [.attention] ∧
       (s.port .p1).sending.isSome = true ∧ (s.port .p1).attnPending = false) ∧
    (ready.port .p0).outbound = [] ∧ (ready.port .p0).link = .down ∧
    { withMessages 8 with sending := some ⟨0x43, 0, 16, []⟩, attnPending := true }.attnPending = true := by decide +kernel

theorem witness_ArbiterGrants :
    (let posted : InReq := ⟨2, .discharge 0 0 1⟩
     let b7 := { withMessages 7 with inbound := [⟨1, .start⟩, posted] }
     let b8 := { withMessages 8 with inbound := [⟨1, .start⟩, posted] }
     b7.outbound.length + b7.reserved < 8 ∧ 8 ≤ b8.outbound.length + b8.reserved ∧
       (∀ x ∈ [(⟨1, .start⟩ : InReq)], x.body.posted = false) ∧ posted.body.posted = true) ∧
    (weighted 8).engine = none ∧ (∀ i : Fin 32, eligible (ready.port (ready.arbiter.get i)) = none) ∧
    (∀ j < 1, ∀ h : Fin 32, h.val = ((weighted 8).phase.val + j) % 32 →
      eligible ((weighted 8).port ((weighted 8).arbiter.get h)) = none) ∧
    eligible ((weighted 8).port ((weighted 8).arbiter.get 9)) = some (⟨1, .lineStatus⟩, []) := by decide +kernel

theorem witness_RowWorkInOrder :
    (lineWith .run 0 []).resetHeld = false ∧ 0 < (lineWith .run 0 []).advancesDue ∧ (lineWith .idle 0 []).line = .idle ∧
    (lineWith .run 0 []).selected = some 3 ∧ (lineWith .drain 0 [rowAt 12 four]).rows ≠ [] ∧
    (([rowAt 12 four].map moved).foldl takeRow { lineWith .drain 112 [] with advancesDue := 0, indexCount := 113 }).rows ≠ [] ∧
    (([rowAt 13 four].map moved).foldl takeRow { lineWith .drain 113 [] with advancesDue := 0, indexCount := 114 }).rows = [] ∧
    ((online 12 []).station .p5).offset = (rowAt 12 four).offset ∧ (online 13 []).exitOffset = some (rowAt 14 four).offset ∧
    (online 13 []).exitOffset ≠ some (rowAt 13 four).offset := by decide +kernel

theorem witness_RowWorkInOrder_arrivals :
    (∀ q, q ≠ .p5 → ((online 12 []).station q).role.onLine = true → ((online 12 []).station q).offset ≠ (rowAt 12 four).offset) ∧
    ∀ q, ((online 12 []).station q).role.onLine = true → ((online 12 []).station q).offset ≠ (rowAt 13 four).offset := by
  constructor <;> intro q <;> cases q <;> decide +kernel

theorem witness_RowWorkInOrder_formation :
    (lineWith .run 1 []).lastIndex = some 7 ∧ ((lineWith .run 1 []).station .p0).role = .form ∧
    (∀ q, ((lineWith .run 1 []).station q).role = .form → portNat .p0 ≤ portNat q) ∧
    ∀ p, (ready.station p).role ≠ .form := by
  refine ⟨rfl, rfl, fun _ _ => Nat.zero_le _, fun p => ?_⟩
  cases p <;> decide

theorem witness_AdvanceMovesRows_quiet : ∀ row ∈ (online 5 four).rows, (online 5 four).exitOffset ≠ some (row.offset + 1) := by
  decide +kernel

theorem witness_AdvanceMovesRows : (online 13 four).resetHeld = false ∧ 0 < (online 13 four).advancesDue ∧
    (online 13 four).line = .run ∧ (online 13 four).selected = some 3 ∧ (online 13 four).lastIndex = some 7 ∧
    (lineWith .drain 113 [rowAt 13 four]).line = .drain := by decide +kernel

/-- A required station of each role with a place on the line. -/
theorem witness_WindowCloseByRole :
    ((ready.station .p0).required = false) ∧
    (let s := online 13 []
     ((s.station .p0).required = true ∧ (s.station .p0).role = .form) ∧
     ((s.station .p1).required = true ∧ (s.station .p1).role = .feed) ∧
     ((s.station .p2).required = true ∧ (s.station .p2).role = .inspect) ∧
     ((s.station .p3).required = true ∧ (s.station .p3).role = .topup) ∧
     ((s.station .p4).required = true ∧ (s.station .p4).role = .seal) ∧
     ((s.station .p5).required = true ∧ (s.station .p5).role = .punch)) ∧
    (Card.fresh 0 1).reported.get .p0 = false ∧ (joinReported .p0 (Card.fresh 0 1)).reported.get .p0 = true ∧
    (Card.fresh 0 1).summary.inhibited = false ∧ (Card.fresh 0 1).discharge = none ∧
    { Card.fresh 0 1 with discharge := some .jammed }.discharge ≠ none := by decide +kernel

theorem witness_WindowCloseByRole_feed :
    (∃ i spec cav, CavityAt { recipe with cavities := [⟨1, 2, 0, some .p1, false, false⟩] } (Card.fresh 0 1) i spec cav ∧
      spec.feeder = some .p1 ∧ spec.verify = false ∧ ∀ e ∈ cav.placements, e.station ≠ .p1) ∧
    ∀ i spec cav, CavityAt recipe (Card.fresh 0 1) i spec cav → spec.feeder = some .p1 → spec.verify = false →
      ∃ e ∈ cav.placements, e.station = .p1 := by
  refine ⟨⟨0, _, _, ⟨rfl, rfl⟩, rfl, rfl, by decide⟩, fun i spec cav h _ hv => ?_⟩
  cases i with
  | zero => obtain ⟨h, -⟩ := h; cases h; cases hv
  | succ i => obtain ⟨h, -⟩ := h; cases h

theorem witness_WindowCloseByRole_inspect :
    ((∀ q, ((online 6 []).station q).role = .inspect → ((online 6 []).station q).offset ≤ ((online 6 []).station .p2).offset) ∧
      ∃ i spec cav, CavityAt recipe (Card.fresh 0 1) i spec cav ∧ spec.verify = true ∧ cav.inspection = none) ∧
    (let s := (online 6 []).setStation .p6 (station .inspect 6 1)
     ∃ q, (s.station q).role = .inspect ∧ (s.station .p2).offset < (s.station q).offset) ∧
    ∀ i spec cav, CavityAt { recipe with cavities := [] } (Card.fresh 0 1) i spec cav → spec.verify = true →
      cav.inspection ≠ none :=
  ⟨⟨by intro q; cases q <;> decide +kernel, 0, _, _, ⟨rfl, rfl⟩, rfl, rfl⟩, ⟨.p6, by decide +kernel, by decide +kernel⟩,
    fun i _ _ h => by simp [CavityAt] at h⟩

theorem witness_ArrivalByRole :
    ((online 1 []).station .p1).role = .feed ∧ ((online 1 []).station .p2).role = .inspect ∧
    ((online 1 []).station .p3).role = .topup ∧ ((online 1 []).station .p4).role = .seal ∧
    ((online 1 []).station .p5).role = .punch ∧ ((online 1 []).station .p0).role = .form ∧
    ((online 1 []).station .p6).role = .unassigned ∧ ((online 1 []).station .p7).role = .supervisor ∧
    (offerBrief .p3 (.topup 0 0 []) (online 1 [])).1 = true ∧
    (offerBrief .p3 (.topup 0 0 []) { online 1 [] with ports := PerPort.all (withMessages 8) }).1 = false := by
  decide +kernel

theorem witness_RefillOrders :
    (let cav : Cavity := ⟨none, [], some ⟨.p2, 21, 3, .ok⟩, 0, none, none, 3⟩
     let c := { Card.fresh 0 1 with cavities := [cav] }
     c.reason = none ∧ CavityAt recipe c 0 ⟨21, 4, 0, some .p1, true, false⟩ cav ∧
       WantsRefill table .p3 recipe ⟨21, 4, 0, some .p1, true, false⟩ cav ∧
       ¬ WantsRefill table .p3 recipe ⟨21, 4, 0, some .p1, true, false⟩ { cav with count := 4 } ∧
       ¬ WantsRefill table .p3 recipe ⟨21, 4, 0, some .p1, true, false⟩ { cav with attempts := 1 } ∧
       ¬ WantsRefill table .p3 recipe ⟨21, 4, 0, some .p1, true, false⟩ Cavity.fresh) ∧
    (Card.condemn (Card.fresh 0 1) .splice none 0).reason ≠ none := by
  refine ⟨⟨rfl, ⟨rfl, rfl⟩, ⟨by decide, by decide, _, rfl, by decide⟩, fun h => absurd h.1 (by decide),
    fun h => absurd h.2.1 (by decide), fun h => ?_⟩, by decide⟩
  obtain ⟨-, -, i, h, -⟩ := h
  cases h

theorem witness_JudgementLowestReason :
    ((online 10 []).station .p4).role = .seal ∧ (online 10 []).sealOffset = some (rowAt 10 four).offset ∧
    (rowAt 10 four).cards[0]? = some (Card.fresh 0 1) ∧ (Card.fresh 0 1).state = .opened ∧ (Card.fresh 0 1).reason = none ∧
    (Card.condemn (Card.fresh 0 1) .splice none 0).reason = some .splice ∧ (Card.fresh 0 1).state ≠ .frozen := by
  decide +kernel

/-- A fresh card of one cavity has SHORT_COUNT and NOT_INSPECTED found; the lower number is SHORT_COUNT. -/
theorem witness_JudgementLowestReason_found :
    Found ((online 10 []).recipe 3) (Card.fresh 0 1) .shortCount ∧
    (∀ y, Found ((online 10 []).recipe 3) (Card.fresh 0 1) y → reasonCode (some .shortCount) ≤ reasonCode (some y)) ∧
    ∀ x, ¬ Found Recipe.default { Card.fresh 0 1 with cavities := [⟨none, [], none, 0, none, none, 1⟩] } x := by
  have hr : (online 10 []).recipe 3 = recipe := by decide +kernel
  rw [hr]
  refine ⟨⟨0, _, _, ⟨rfl, rfl⟩, by decide, rfl⟩, ?_, ?_⟩
  · rintro y ⟨i, spec, cav, ⟨h1, h2⟩, h3⟩
    cases i with
    | zero => cases h1; cases h2; cases y <;> simp_all [Fails, reasonCode, Cavity.fresh]
    | succ i => cases h1
  · rintro x ⟨i, spec, cav, ⟨h1, h2⟩, h3⟩
    cases i with
    | zero => cases h1; cases h2; cases x <;> simp_all [Fails]
    | succ i => cases h1

theorem witness_FreezeVerdicts :
    ((online 12 []).station .p5).role = .punch ∧
    (let r := (online 12 []).recipe 3
     let dosed (n : Nat) (b : Bool) : Card := { Card.fresh 0 1 with state := .judged, summary := ⟨2, n, b, false, none, false⟩ }
     (rowAt 12 [dosed 900 false]).cards[0]? = some (dosed 900 false) ∧ (dosed 900 false).state ≠ .frozen ∧
       (dosed 900 false).reason = none ∧ (dosed 900 false).station = none ∧ r.dMin ≤ (dosed 900 false).summary.dose ∧
       (dosed 1400 false).summary.dose ≤ r.dMax ∧ r.dMax < (dosed 1401 false).summary.dose ∧
       (dosed 899 false).summary.dose < r.dMin ∧ (dosed 899 true).summary.saturated = true) ∧
    (Card.condemn (Card.fresh 0 1) .splice none 0).reason ≠ none := by decide +kernel

theorem witness_ReconciliationTable :
    judged.map (fun c => (c.verdict, c.discharge)) = [(some .pass, some .goodChute), (some .reject, some .rejectChute),
      (some .reject, none), (some .reject, some .jammed)] ∧ ready.fault = none ∧
    { ready with fault := some ⟨1, 0, none⟩ }.fault ≠ none := by decide +kernel

theorem witness_RetirementOffersRecords :
    { ready with trace := List.replicate 255 (record 1) }.trace.length < 256 ∧
    256 ≤ { ready with trace := List.replicate 256 (record 1) }.trace.length := by decide +kernel

theorem witness_DrainEndSetsIdle :
    (lineWith .drain 113 [rowAt 13 four]).resetHeld = false ∧ 0 < (lineWith .drain 113 [rowAt 13 four]).advancesDue ∧
    (lineWith .drain 113 [rowAt 13 four]).rows ≠ [] ∧
    (∀ r ∈ (lineWith .drain 113 [rowAt 13 four]).rows, (lineWith .drain 113 [rowAt 13 four]).exitOffset = some (r.offset + 1)) ∧
    exec .advance (online 13 four) = .next (after (exec .advance (online 13 four))) ∧
    exec .indexPulse ready = .next (after (exec .indexPulse ready)) := by
  refine ⟨by decide +kernel, by decide +kernel, by decide +kernel, by decide +kernel, rfl, rfl⟩

theorem witness_LineChangesRaiseLineState :
    exec (.start .p7 1) (lineWith .idle 0 []) = .next (after (exec (.start .p7 1) (lineWith .idle 0 []))) ∧
    (after (exec (.start .p7 1) (lineWith .idle 0 []))).line ≠ (lineWith .idle 0 []).line ∧
    InService ⟨.p7, 1, .purge⟩ (holding (.purge .p7 1) ready) ∧ (ready.station .p7).perms.operate = true ∧
    InService ⟨.p7, 1, .start⟩ (holding (.start .p7 1) ready) ∧ (∃ check ∈ startChecks ready, check = false) ∧
    InService ⟨.p7, 1, .stopForming⟩ (holding (.stopForming .p7 1) ready) ∧ ready.line ≠ .run :=
  ⟨rfl, by decide +kernel, ⟨rfl, rfl, rfl⟩, rfl, ⟨rfl, rfl, rfl⟩, by decide +kernel, ⟨rfl, rfl, rfl⟩, by decide⟩

/-- A SEAL_HIT of P4, whose window covers offsets 10 and 11. -/
def strike : Instr := .sealHit .p4 1 100 0 1 1805 900 310

theorem witness_ReportAdmissionChecks :
    requestOf strike = some ⟨.p4, 1, .sealHit 100 0 1 1805 900 310⟩ ∧
    reportTarget (.sealHit 100 0 1 1805 900 310) = some (100, 0) ∧
    mayReport .feed (.sealHit 100 0 1 1805 900 310) = false ∧ mayReport .seal (.sealHit 100 0 1 1805 900 310) = true ∧
    { station .seal 10 2 with mode := .offline }.mode = .offline ∧ ((online 10 four).station .p4).mode = .active ∧
    (online 9 four).findRow 356 = none ∧ (rowAt 9 four).card 3 = some (Card.fresh 3 1) ∧ (rowAt 9 []).card 3 = none ∧
    (lineWith .run 0 []).findRow 100 = none ∧ (online 9 four).findRow 100 = some (rowAt 9 four) ∧
    (rowAt 9 four).offset < ((online 9 four).station .p4).offset ∧
    ((online 12 four).station .p4).offset + ((online 12 four).station .p4).window ≤ (rowAt 12 four).offset := by
  decide +kernel

theorem witness_ReportAdmissionChecks_service (o : Nat) :
    InService ⟨.p4, 1, .sealHit 100 0 1 1805 900 310⟩ (holding strike (online o four)) := ⟨rfl, rfl, rfl⟩

/-- Each report kind in service and admitted, at the first and the last offset of its station's window. -/
theorem witness_Admits_form (splice : Octet) (outcomes : List Octet) :
    (let s := holding (.formResult .p0 1 100 0 splice outcomes) (online 0 four)
     InService ⟨.p0, 1, .formResult 100 0 splice outcomes⟩ s ∧
     Admits ⟨.p0, 1, .formResult 100 0 splice outcomes⟩ s (rowAt 0 four) 0 (Card.fresh 0 1)) :=
  ⟨⟨rfl, rfl, rfl⟩, rfl, rfl, rfl, rfl, Nat.le_of_ble_eq_true rfl, Nat.le_of_ble_eq_true rfl, rfl, rfl⟩

theorem witness_Admits_placement (pairs : List PlacePair) :
    (let s := holding (.placement .p1 1 100 3 pairs) (online 1 four)
     InService ⟨.p1, 1, .placement 100 3 pairs⟩ s ∧
     Admits ⟨.p1, 1, .placement 100 3 pairs⟩ s (rowAt 1 four) 3 (Card.fresh 3 1)) :=
  ⟨⟨rfl, rfl, rfl⟩, rfl, rfl, rfl, rfl, Nat.le_of_ble_eq_true rfl, Nat.le_of_ble_eq_true rfl, rfl, rfl⟩

theorem witness_Admits_inspection (entries : List InspectEntry) :
    (let s := holding (.inspection .p2 1 100 0 entries) (online 5 four)
     InService ⟨.p2, 1, .inspection 100 0 entries⟩ s ∧
     Admits ⟨.p2, 1, .inspection 100 0 entries⟩ s (rowAt 5 four) 0 (Card.fresh 0 1)) :=
  ⟨⟨rfl, rfl, rfl⟩, rfl, rfl, rfl, rfl, Nat.le_of_ble_eq_true rfl, Nat.le_of_ble_eq_true rfl, rfl, rfl⟩

theorem witness_Admits_seal_hit (sealed : Octet) (t w q : Half) (c : Card) (h : c.lane = 0) :
    (let s := holding (.sealHit .p4 1 100 0 sealed t w q) (online 11 [c])
     InService ⟨.p4, 1, .sealHit 100 0 sealed t w q⟩ s ∧
     Admits ⟨.p4, 1, .sealHit 100 0 sealed t w q⟩ s (rowAt 11 [c]) 0 c) :=
  ⟨⟨rfl, rfl, rfl⟩, rfl, rfl, rfl, rfl, by show 10 ≤ 11; decide, by show 11 < 10 + 2; decide,
    by show (15 : BitVec 4).getLsbD 0 = true; decide,
    by simp [Row.card, rowAt, h]⟩

theorem witness_Admits_discharge (outcome : Octet) :
    (let s := holding (.discharge .p5 1 100 0 outcome) (online 13 four)
     InService ⟨.p5, 1, .discharge 100 0 outcome⟩ s ∧
     Admits ⟨.p5, 1, .discharge 100 0 outcome⟩ s (rowAt 13 four) 0 (Card.fresh 0 1)) :=
  ⟨⟨rfl, rfl, rfl⟩, rfl, rfl, rfl, rfl, Nat.le_of_ble_eq_true rfl, Nat.le_of_ble_eq_true rfl, rfl, rfl⟩

/-- Lists and values that each content check refuses, for a recipe of one cavity, and the same at their last good value. -/
theorem witness_ReportContentRefusals :
    ((online 0 four).recipe (rowAt 0 four).recipe).cavities.length = 1 ∧
    (3 < (4 : Octet).toNat ∧ (5 : BitVec 4).getLsbD (3 : Octet).toNat = false) ∧
    ([1, 1] : List Octet).length ≠ 1 ∧ (1 < (2 : Octet).toNat) ∧
    (∃ o ∈ ([4] : List Octet), o.toNat = 0 ∨ 3 < o.toNat) ∧
    12 < (List.replicate 13 (⟨0, 1⟩ : PlacePair)).length ∧ (∃ e ∈ [(⟨1, 1⟩ : PlacePair)], 1 ≤ e.cavity.toNat) ∧
    ¬ ([(⟨0, 1⟩ : PlacePair), ⟨0, 2⟩].map (·.cavity)).Nodup ∧
    12 < (List.replicate 13 (⟨0, 1, 1, 0⟩ : InspectEntry)).length ∧
    (∃ e ∈ [(⟨1, 1, 1, 0⟩ : InspectEntry)], 1 ≤ e.cavity.toNat) ∧
    ¬ ([(⟨0, 1, 1, 0⟩ : InspectEntry), ⟨0, 1, 1, 0⟩].map (·.cavity)).Nodup ∧
    (∃ e ∈ [(⟨0, 64, 1, 0⟩ : InspectEntry)], 63 < e.classSeen.toNat ∨ 2 < e.orientation.toNat) ∧
    (∃ e ∈ [(⟨0, 63, 1, 3⟩ : InspectEntry)], 63 < e.classSeen.toNat ∨ 2 < e.orientation.toNat) ∧
    (1 : Octet).toNat ≤ 1 ∧ 4 ≤ { Card.fresh 0 1 with tallies := PerPort.all 4 }.tallies.get .p4 ∧
    ((0 : Octet).toNat = 0 ∨ 3 < (0 : Octet).toNat) := by decide +kernel

theorem witness_ReportsApplied :
    ([3] : List Octet).map formOutcomeOf = [FormOutcome.notFormed].map some ∧ (1 : Octet).toNat ≤ 1 ∧
    (∀ e ∈ [(⟨0, 255⟩ : PlacePair)], e.cavity.toNat < 1) ∧ ([(⟨0, 255⟩ : PlacePair)].map (·.cavity)).Nodup ∧
    (∀ e ∈ [(⟨0, 63, 255, 2⟩ : InspectEntry)], e.cavity.toNat < 1) ∧
    (∀ e ∈ [(⟨0, 63, 255, 2⟩ : InspectEntry)], e.classSeen.toNat ≤ 63 ∧ e.orientation.toNat ≤ 2) ∧
    { Card.fresh 0 1 with tallies := PerPort.all 3 }.tallies.get .p4 < 4 := by decide +kernel

theorem witness_FormResultOnCard :
    ([.thin] : List FormOutcome).length = (Card.fresh 0 1).cavities.length ∧ (∃ x ∈ ([.thin] : List FormOutcome), x ≠ .good) ∧
    ∀ x ∈ ([.good] : List FormOutcome), x = .good := by decide

theorem witness_PlacementOnCavity :
    ([(⟨1, 16⟩ : PlacePair)].map (·.cavity)).Nodup ∧ (Card.fresh 0 2).cavities[1]? = some Cavity.fresh ∧
    (∀ e ∈ [(⟨1, 16⟩ : PlacePair)], e.cavity.toNat ≠ 0) ∧ (∀ x ∈ Cavity.fresh.placements, x.station ≠ .p1) ∧
    ∃ x ∈ (placeInto table .p1 3 Cavity.fresh).placements, x.station = .p1 := by decide +kernel

/-- P6 is a second camera downstream of P2: a cavity it has reported is not the first camera's to replace. -/
theorem witness_InspectionOnCard :
    (let stations := table.set .p6 (station .inspect 6 1)
     let later : Cavity := ⟨none, [], some ⟨.p6, 21, 4, .ok⟩, 0, none, none, 4⟩
     ([(⟨0, 22, 4, 0⟩ : InspectEntry)].map (·.cavity)).Nodup ∧
     (∀ e ∈ [(⟨0, 22, 4, 2⟩ : InspectEntry)], e.orientation.toNat ≤ 2) ∧
     recipe.cavities.length = (Card.fresh 0 1).cavities.length ∧
     (∃ i, later.inspection = some i ∧ (stations.get .p2).offset < (stations.get i.station).offset) ∧
     (¬ ∃ i, Cavity.fresh.inspection = some i ∧ (stations.get .p2).offset < (stations.get i.station).offset) ∧
     CavityAt recipe (Card.fresh 0 1) 0 ⟨21, 4, 0, some .p1, true, false⟩ Cavity.fresh ∧
     orientationOf 2 = some .undetermined ∧ (22 : Octet).toNat ≠ 0 ∧ (22 : Octet).toNat ≠ 21) := by
  refine ⟨by decide, by decide, rfl, ⟨_, rfl, by decide +kernel⟩, ?_, ⟨rfl, rfl⟩, rfl, by decide, by decide⟩
  rintro ⟨i, h, -⟩
  cases h

theorem witness_SealHitOnCard : recipe.pMin ≤ min 1000 250 ∧ min 1000 249 < recipe.pMin := by decide

theorem witness_HitDose : (1200 ≤ 1200) ∧ (1200 < 1201) ∧ min 3000 1200 ≤ recipe.tAct ∧
    (Card.fresh 0 1).summary.dose ≤ 65535 ∧ min 1000 249 < recipe.pMin ∧ (Card.fresh 0 1).reason = none ∧
    (Card.fresh 0 1).state ≠ .frozen := by decide

theorem witness_DoseAccumulator :
    (let full : Seal := ⟨5, 65535, true, false, none, false⟩
     let empty : Seal := ⟨0, 0, false, false, none, false⟩
     (empty.dose + 65535 ≤ 65535) ∧ 65535 < full.dose + 1 ∧ full.dose = 65535 ∧ full.saturated = true ∧ empty.dose = 0 ∧
       empty.saturated = false) := by decide

theorem witness_EffectiveCountLaw : [(⟨.p1, 4⟩ : Placement), ⟨.p3, 1⟩].Perm [⟨.p3, 1⟩, ⟨.p1, 4⟩] ∧
    superseded table .p2 ⟨none, [⟨.p1, 4⟩], some ⟨.p2, 21, 3, .ok⟩, 0, none, none, 3⟩ = false := by decide +kernel

theorem witness_StartOutcomes :
    (let s := holding (.start .p7 1) (lineWith .idle 0 [])
     InService ⟨.p7, 1, .start⟩ s ∧ (s.station .p7).perms.operate = true ∧ s.line ≠ .run ∧
       (∀ check ∈ startChecks s, check = true) ∧ (s.station .p5).role = .punch ∧ (s.station .p4).role = .seal ∧
       (∀ q, (s.station q).role = .seal → (s.station .p4).offset ≤ (s.station q).offset)) ∧
    (let s := holding (.start .p7 1) { lineWith .drain 0 [] with stations := table.set .p3 (station .topup 6 1) }
     InService ⟨.p7, 1, .start⟩ s ∧ s.line ≠ .run ∧ (∀ m < 8, (startChecks s)[m]? = some true) ∧
       (startChecks s)[8]? = some false) ∧
    (let s := holding (.start .p7 1) ready
     InService ⟨.p7, 1, .start⟩ s ∧ (∀ m < 0, (startChecks s)[m]? = some true) ∧ (startChecks s)[0]? = some false) ∧
    InService ⟨.p7, 1, .start⟩ (holding (.start .p7 1) (online 5 four)) ∧ (online 5 four).line = .run := by
  refine ⟨⟨⟨rfl, rfl, rfl⟩, rfl, by decide +kernel, by decide +kernel, rfl, rfl, by intro q; cases q <;> decide +kernel⟩,
    ⟨⟨rfl, rfl, rfl⟩, by decide +kernel, by decide +kernel, by decide +kernel⟩,
    ⟨⟨rfl, rfl, rfl⟩, by decide, by decide +kernel⟩, ⟨rfl, rfl, rfl⟩, rfl⟩

theorem witness_StartChecksMean : startCheck3 (lineWith .idle 0 []) = true ∧ startCheck4 (lineWith .idle 0 []) = true := by
  decide +kernel

theorem witness_LineCommands :
    (ready.station .p7).perms.operate = true ∧ (online 5 four).line = .run ∧ (online 5 four).rows ≠ [] ∧
    (lineWith .run 0 []).rows = [] ∧ ready.line ≠ .run ∧
    InService ⟨.p7, 1, .stopForming⟩ (holding (.stopForming .p7 1) (online 5 four)) ∧
    InService ⟨.p7, 1, .selectRecipe 15⟩ (holding (.selectRecipe .p7 1 15) ready) ∧
    InService ⟨.p7, 1, .releaseHold⟩ (holding (.releaseHold .p7 1) ready) ∧ 15 < (16 : Octet).toNat ∧
    (15 : Octet).toNat = (15 : RecipeId).val ∧ (ready.recipe 15).valid = false ∧ ((online 5 four).recipe 3).valid = true :=
  ⟨rfl, rfl, by decide, rfl, by decide, ⟨rfl, rfl, rfl⟩, ⟨rfl, rfl, rfl⟩, ⟨rfl, rfl, rfl⟩, by decide, rfl, by decide +kernel,
    by decide +kernel⟩

theorem witness_PurgeEmptiesMap : InService ⟨.p7, 1, .purge⟩ (holding (.purge .p7 1) (online 5 four)) ∧
    ((online 5 four).station .p7).perms.operate = true := ⟨⟨rfl, rfl, rfl⟩, rfl⟩

theorem witness_CondemnRange (first : Word) (count mask : Octet) :
    InService ⟨.p7, 1, .condemn first count mask⟩ (holding (.condemn .p7 1 first count mask) racing) ∧
    (racing.station .p7).perms.operate = true ∧ (0 : Octet).toNat = 0 ∧ 64 < (65 : Octet).toNat ∧
    (1 ≤ (1 : Octet).toNat ∧ (64 : Octet).toNat ≤ 64) ∧ 15 < (16 : Octet).toNat ∧ (15 : Octet).toNat ≤ 15 :=
  ⟨⟨rfl, rfl, rfl⟩, rfl, by decide⟩

theorem witness_StationTableWrites :
    InService ⟨.p0, 1, .stationModeSet 0 1⟩ (holding (.stationModeSet .p0 1 0 1) ready) ∧
    (0 : Octet).toNat = portNat .p0 ∧ 7 < (8 : Octet).toNat ∧ 1 < (2 : Octet).toNat ∧ (7 : Octet).toNat = portNat .p7 ∧
    InService ⟨.p7, 1, .stationWrite 7 ⟨7, 62, 0, 1, 1, 7⟩⟩ (holding (.stationWrite .p7 1 7 ⟨7, 62, 0, 1, 1, 7⟩) ready) ∧
    (ready.station .p7).perms = ⟨true, true, true⟩ ∧ ready.line = .idle ∧ (online 5 four).line ≠ .idle ∧
    roleOf 7 = some .supervisor ∧ modeOf 1 = some .active ∧ (62 : Octet).toNat ≤ 62 ∧ 62 < (63 : Octet).toNat ∧
    (7 : Octet).toNat ≤ 7 :=
  ⟨⟨rfl, rfl, rfl⟩, rfl, by decide, by decide, rfl, ⟨rfl, rfl, rfl⟩, rfl, rfl, by decide, rfl, rfl, by decide, by decide,
    by decide⟩

theorem witness_RecipeWriteOutcomes :
    InService ⟨.p7, 1, .recipeWrite 15 goodRecipe⟩ (holding (.recipeWrite .p7 1 15 goodRecipe) (online 5 four)) ∧
    ((online 5 four).station .p7).perms.config = true ∧ 15 < (16 : Octet).toNat ∧ (15 : Octet).toNat = (15 : RecipeId).val ∧
    (online 5 four).useCount 3 ≠ 0 ∧ (lineWith .run 0 []).selected = some 3 ∧ (online 5 four).useCount 15 = 0 ∧
    (online 5 four).selected ≠ some 15 ∧ 12 < { goodRecipe with cavityCount := 13 }.cavityCount.toNat ∧
    { goodRecipe with cavityCount := 12 }.cavities.length ≠ { goodRecipe with cavityCount := 12 }.cavityCount.toNat ∧
    goodRecipe.cavities.length = goodRecipe.cavityCount.toNat ∧ recipeRefusal goodRecipe = none ∧
    { goodRecipe with dMax := 65534 }.dMax.toNat < goodRecipe.dMin.toNat :=
  ⟨⟨rfl, rfl, rfl⟩, rfl, by decide, rfl, by decide +kernel, rfl, by decide +kernel, by decide +kernel, by decide, by decide,
    by decide, by decide, by decide⟩

theorem witness_SettingsWritten (v n h : Half) (phases : Vector Octet 32) : (ready.station .p7).perms.config = true ∧
    InService ⟨.p7, 1, .indexIntervalSet v⟩ (holding (.indexIntervalSet .p7 1 v) ready) ∧
    InService ⟨.p7, 1, .traceLevelsSet n h⟩ (holding (.traceLevelsSet .p7 1 n h) ready) ∧
    InService ⟨.p7, 1, .arbiterWrite phases⟩ (holding (.arbiterWrite .p7 1 phases) ready) :=
  ⟨rfl, ⟨rfl, rfl, rfl⟩, ⟨rfl, rfl, rfl⟩, ⟨rfl, rfl, rfl⟩⟩

theorem witness_RetireReadTakesOldest :
    InService ⟨.p7, 1, .retireRead 2⟩ (holding (.retireRead .p7 1 2) { ready with trace := [record 1] }) ∧
    (ready.station .p7).perms.trace = true ∧ ((3 : Octet).toNat ≠ 1 ∧ (3 : Octet).toNat ≠ 2) ∧
    ((2 : Octet).toNat = 1 ∨ (2 : Octet).toNat = 2) ∧ { ready with trace := [record 1] }.trace = [record 1] ++ [] ∧
    ([record 1].length < (2 : Octet).toNat) ∧ [record 1, record 2].length = (2 : Octet).toNat :=
  ⟨⟨rfl, rfl, rfl⟩, rfl, by decide, by decide, rfl, by decide, by decide⟩

/-- One SEAL port, none, and two. -/
theorem witness_QueriesAnswered_tallies :
    (((online 5 four).station .p4).role = .seal ∧ ∀ q, ((online 5 four).station q).role = .seal → q = .p4) ∧
    (∀ q, (ready.station q).role ≠ .seal) ∧
    (let s := (online 5 four).setStation .p6 (station .seal 9 1)
     (s.station .p4).role = .seal ∧ (s.station .p6).role = .seal ∧ portNat .p4 < portNat .p6 ∧
       ∀ q, (s.station q).role = .seal → q = .p4 ∨ portNat .p6 ≤ portNat q) := by
  refine ⟨⟨rfl, fun q => ?_⟩, fun q => ?_, rfl, rfl, by decide, fun q => ?_⟩ <;> cases q <;> decide +kernel

/-- The queries in service on a line with row 100 at offset 63, and their operands at the ends of their ranges. -/
theorem witness_QueriesAnswered :
    InService ⟨.p0, 1, .lineStatus⟩ (holding (.lineStatus .p0 1) (online 5 four)) ∧ ready.rows = [] ∧
    (∃ low ∈ (online 5 four).rows, ∃ high ∈ (online 5 four).rows,
      (online 5 four).rows.Pairwise (fun a b => b.offset < a.offset) ∧
      ∀ x ∈ (online 5 four).rows, low.offset ≤ x.offset ∧ x.offset ≤ high.offset) ∧
    InService ⟨.p0, 1, .stationRead 7⟩ (holding (.stationRead .p0 1 7) ready) ∧ (7 : Octet).toNat = portNat .p7 ∧
    (7 < (8 : Octet).toNat ∧ (8 : Octet) ≠ 255) ∧
    InService ⟨.p0, 1, .recipeRead 15⟩ (holding (.recipeRead .p0 1 15) ready) ∧ (15 : Octet).toNat = (15 : RecipeId).val ∧
    15 < (16 : Octet).toNat ∧
    InService ⟨.p0, 1, .cardQuery 100 3⟩ (holding (.cardQuery .p0 1 100 3) (online 5 four)) ∧ ready.findRow 100 = none ∧
    (online 5 four).findRow 100 = some (rowAt 5 four) ∧ (3 : Octet).toNat = (3 : Fin 4).val ∧
    (rowAt 5 four).laneMask.getLsbD (3 : Fin 4).val = true ∧ (rowAt 5 four).card 3 = some (Card.fresh 3 1) ∧
    3 < (4 : Octet).toNat ∧
    InService ⟨.p0, 1, .rowQuery 63⟩ (holding (.rowQuery .p0 1 63) (online 63 four)) ∧ (63 : Octet).toNat ≤ 63 ∧
    63 < (64 : Octet).toNat ∧ (∀ row ∈ ready.rows, row.offset ≠ (63 : Octet).toNat) ∧
    (online 63 four).rows = [] ++ rowAt 63 four :: [] ∧ (rowAt 63 four).offset = (63 : Octet).toNat ∧
    InService ⟨.p0, 1, .traceStatus⟩ (holding (.traceStatus .p0 1) ready) ∧
    InService ⟨.p0, 1, .countersRead 7⟩ (holding (.countersRead .p0 1 7) ready) ∧
    InService ⟨.p0, 1, .arbiterRead⟩ (holding (.arbiterRead .p0 1) ready) :=
  ⟨⟨rfl, rfl, rfl⟩, rfl, by decide +kernel, ⟨rfl, rfl, rfl⟩, rfl, by decide, ⟨rfl, rfl, rfl⟩, rfl, by decide, ⟨rfl, rfl, rfl⟩,
    rfl, rfl, rfl, rfl, rfl, by decide, ⟨rfl, rfl, rfl⟩, by decide, by decide, by decide, rfl, rfl, ⟨rfl, rfl, rfl⟩,
    ⟨rfl, rfl, rfl⟩, ⟨rfl, rfl, rfl⟩⟩

theorem witness_AttentionCommands :
    InService ⟨.p0, 1, .attnStatusRead⟩ (holding (.attnStatusRead .p0 1) watched) ∧
    InService ⟨.p0, 1, .attnEnableSet 4096⟩ (holding (.attnEnableSet .p0 1 4096) watched) ∧ 4096 ≤ (4096 : Half).toNat ∧
    InService ⟨.p0, 1, .attnEnableClear 4095⟩ (holding (.attnEnableClear .p0 1 4095) watched) ∧
    InService ⟨.p0, 1, .attnClear 4095⟩ (holding (.attnClear .p0 1 4095) watched) ∧
    (4095 : Half).toNat = (4095 : CondSet).toNat :=
  ⟨⟨rfl, rfl, rfl⟩, ⟨rfl, rfl, rfl⟩, by decide, ⟨rfl, rfl, rfl⟩, ⟨rfl, rfl, rfl⟩, rfl⟩

/-- Each state condition alone but for HOLD, which the latch asserts too: 64 records at the notify level, a hold level above
the free space below it, and the latch. -/
theorem witness_AttentionCommands_conditions :
    { ready with trace := List.replicate 64 (record 1) }.conditions = 0x001 ∧
    { ready with notify := 255, trace := List.replicate 241 (record 1) }.conditions = 0x002 ∧
    { ready with fault := some ⟨1, 0, none⟩ }.conditions = 0x006 ∧
    { ready with trace := List.replicate 63 (record 1) }.conditions = 0 := by decide +kernel

/-- A bad frame of each kind: a bad escape, a closing flag after an escape, too short, a length that is not the length
octet's, a kind that names no request, and a wrong check. -/
theorem witness_RequestFramesReadBack_bad :
    ((0xE4 : Octet) ≠ 0xE5 ∧ (0xE4 : Octet) ≠ 0xEA) ∧ ([0, 0, 0, 0, 0] : List Octet).length < 6 ∧
    6 + (1 : Octet).toNat ≠ ([0, 0] : List Octet).length + 4 ∧ 128 < (129 : Octet).toNat ∧
    (0x05 < (0x06 : Octet).toNat ∧ (0x0F : Octet).toNat < 0x10 ∧ 0x28 < (0x29 : Octet).toNat) ∧
    readFrame [0x10, 0x01, 0x10, 0x00, 0xAB, 0x24] = some ⟨1, .start⟩ ∧ (0xAB25 : Half) ≠ crc [0x10, 0x01, 0x10, 0x00] := by
  decide +kernel

/-- The values of the records' fields at the ends of their ranges. -/
theorem witness_PayloadLayouts :
    (⟨15, 65535, true, true, some 65535, true⟩ : Seal).hits ≤ 15 ∧ [15, 15].length = [3, 3].length ∧
    (let c : Cavity := ⟨some .thin, [⟨.p7, 15⟩], some ⟨.p2, 63, 15, .reversed⟩, 3, some .placed, some .p3, 15⟩
     c.attempts ≤ 3 ∧ c.placements.length ≤ 7 ∧ c.count ≤ 15 ∧ c.placements[0]? = some ⟨.p7, 15⟩) ∧
    (∀ o ∈ (some 62 : Option Nat), o ≤ 254) := by decide

/-- The longest requests that fit a payload: 128 octets of outcomes and pairs, 126 of entries, 125 of a recipe. -/
theorem witness_RequestFramesReadBack :
    (ReqBody.formResult 0 0 0 (List.replicate 121 1)).wellFormed = true ∧
    (ReqBody.placement 0 0 (List.replicate 61 ⟨0, 0⟩)).wellFormed = true ∧
    (ReqBody.inspection 0 0 (List.replicate 30 ⟨0, 0, 0, 0⟩)).wellFormed = true ∧
    (ReqBody.recipeWrite 0 { goodRecipe with cavities := List.replicate 18 ⟨0, 0, 0, 0, 0, 0⟩ }).wellFormed = true ∧
    (⟨0x42, 0, 16, List.replicate 128 0⟩ : OutFrame).payload.length ≤ 128 := by decide +kernel

theorem witness_WholeMachineRules :
    exec .advance (online 13 judged) = .next (after (exec .advance (online 13 judged))) ∧
    mayChangeLine .indexPulse = false ∧ mayShortenTrace .advance = false ∧ mayClearFault .advance = false ∧
    mayWriteStations .advance = false ∧ { ready with fault := some ⟨1, 0, none⟩ }.fault = some ⟨1, 0, none⟩ ∧
    (online 5 four).load = .ready ∧ (online 5 four).useCount 3 ≠ 0 :=
  ⟨rfl, rfl, rfl, rfl, rfl, rfl, rfl, by decide +kernel⟩

/-- The map with row 100 at offset 5 is sound. -/
theorem online_mapSound : MapSound (online 5 four) := by
  refine ⟨fun h => ?_, fun h => ?_, fun h => ?_, fun _ => ⟨by decide +kernel, 14, rfl, by decide, by decide, by decide +kernel⟩,
    by decide +kernel, by decide +kernel⟩
  · rcases h with h | h <;> cases h
  · cases h
  · cases h

theorem witness_CondemnationSetOnce :
    MapSound (online 5 four) ∧ OneCardPerLane (online 5 four) ∧
    exec .timeTagTick (online 5 four) = .next (after (exec .timeTagTick (online 5 four))) ∧
    (Card.fresh 0 1).reason = none ∧ (Card.fresh 0 1).state ≠ .frozen ∧
    (Card.condemn (Card.fresh 0 1) .splice none 0).reason = some .splice ∧ { Card.fresh 0 1 with state := .frozen }.state = .frozen :=
  ⟨online_mapSound, by unfold OneCardPerLane; decide +kernel, rfl, rfl, by decide, by decide, rfl⟩

/-- A state with a row on the map meets the invariants, and its step answers next. -/
def stepping : State := { online 5 four with pending := [.advance], cardsFormed := 4 }

theorem witness_stepping : step stepping = .next (after (step stepping)) ∧ (after (step stepping)).rows.length = 2 := by
  constructor
  · rfl
  · decide +kernel

theorem witness_QueuesStayBounded : QueuesBounded stepping := by
  refine ⟨fun p => ?_, by decide +kernel⟩
  cases p <;> decide +kernel

theorem witness_CardsStayConserved : CardsConserved stepping := by unfold CardsConserved; decide +kernel

theorem witness_UseCountsStayMatched : UseCountsMatch stepping := by unfold UseCountsMatch; decide +kernel

theorem witness_VerdictsStaySound : VerdictsSound stepping ∧ TraceVerdictsExact stepping := by
  unfold VerdictsSound CardSound TraceVerdictsExact; decide +kernel

/-- The rows of `stepping`: one, with four fresh cards. -/
theorem stepping_cards {P : Row → Card → Prop} (h : ∀ l, P (rowAt 5 four) (Card.fresh l 1)) :
    ∀ row ∈ stepping.rows, ∀ c ∈ row.cards, P row c := by
  intro row hr c hc
  obtain rfl : row = rowAt 5 four := by simpa [stepping, online, lineWith] using hr
  obtain ⟨l, -, rfl⟩ := List.mem_map.mp hc
  exact h l

theorem witness_SealsStayBounded : MapSound stepping ∧ SealsBounded stepping := by
  refine ⟨online_mapSound, ?_, stepping_cards fun l => ⟨⟨?_, ?_, fun p => ?_, ?_, ?_⟩, fun p _ => ?_⟩⟩
  · unfold OneCardPerLane; decide +kernel
  all_goals try cases p
  all_goals decide +revert +kernel

theorem witness_CardRecordsStaySound : CavitiesSound stepping ∧ ReportedOpen stepping := by
  refine ⟨fun row hr => ?_, stepping_cards fun l p h => ?_⟩
  · obtain rfl : row = rowAt 5 four := by simpa [stepping, online, lineWith] using hr
    refine ⟨by decide +kernel, by decide +kernel, fun c hc => ?_⟩
    obtain ⟨l, -, rfl⟩ := List.mem_map.mp hc
    refine ⟨by revert l; decide +kernel, fun cav hv => ?_⟩
    obtain rfl : cav = Cavity.fresh := List.eq_of_mem_replicate hv
    exact ⟨by decide +kernel, by decide, by simp [Cavity.fresh], by simp [Cavity.fresh], Nat.zero_le _⟩
  · cases p <;> cases h

theorem witness_MapStaysSound : MapSound stepping := online_mapSound

theorem witness_RecipesStaySoundAndStepsComplete : RecipesSound stepping := by
  refine ⟨fun h => ?_, by decide +kernel, fun _ => ⟨3, rfl, by decide +kernel⟩⟩
  rcases h with h | h <;> cases h

theorem witness_TablesStayInRange : TablesInRange stepping := by
  refine ⟨fun p => ?_, ?_, by decide +kernel, by decide +kernel, by decide +kernel, by decide +kernel⟩
  · cases p <;> (unfold StationInRange; decide +kernel)
  · unfold RecipeInRange SpecInRange; decide +kernel

theorem witness_CardStatesFollowOffsets : StatesFollowOffsets stepping := by
  refine ⟨online_mapSound, fun _ => ⟨?_, fun s1 q h1 h2 => ?_⟩⟩
  · unfold LineConfigured; decide +kernel
  · obtain rfl : 10 = s1 := Option.some.inj h1
    cases q <;> first
      | (cases h2; done)
      | decide +kernel

/-- One state meets the hypotheses of the statements that take several invariants. -/
theorem witness_joint_invariants : StatesFollowOffsets stepping ∧ VerdictsSound stepping ∧ TraceVerdictsExact stepping ∧
    MapSound stepping ∧ UseCountsMatch stepping ∧ SealsBounded stepping ∧ CavitiesSound stepping ∧ ReportedOpen stepping :=
  ⟨witness_CardStatesFollowOffsets, witness_VerdictsStaySound.1, witness_VerdictsStaySound.2, online_mapSound,
    witness_UseCountsStayMatched, witness_SealsStayBounded.2, witness_CardRecordsStaySound.1,
    witness_CardRecordsStaySound.2⟩

end Sys2Proof.Tests
end

/-! ## The line state, E and S1: which commands change them, and how LINE_STATE is raised (chapter 1 section 1.1) -/

namespace Sys2Proof.Machine

/-! ### The line state with E and S1 -/

/-- What R1 and R5 keep of the line itself: its state, E and S1. -/
def lineKey (s : State) : LineState × Option Nat × Option Nat := (s.line, s.exitOffset, s.sealOffset)

theorem lineKey_eq_iff {s t : State} :
    lineKey t = lineKey s ↔ t.line = s.line ∧ t.exitOffset = s.exitOffset ∧ t.sealOffset = s.sealOffset := by
  simp [lineKey]

@[simp] theorem lineKey_placeAnswer (r : Request) (a : Answer) (s : State) :
    lineKey (placeAnswer r a s) = lineKey s := by simp [lineKey]

@[simp] theorem lineKey_finished (r : Request) (a : Answer) (s s1 : State) :
    lineKey (finished r a s s1) = lineKey s1 := by simp [finished, lineKey]

@[simp] theorem lineKey_brought (r : Request) (s : State) : lineKey (brought r s) = lineKey s := by
  obtain ⟨v, e, i, h⟩ := brought_eq r s
  rw [h]; rfl

@[simp] theorem lineKey_grantNext (s : State) : lineKey (grantNext s) = lineKey s := by
  obtain h | ⟨i, p, q, rest, -, -, -, h⟩ := grantNext_eq s <;> rw [h]
  rfl

@[simp] theorem lineKey_receiveRequest (p : Port) (r : InReq) (s : State) :
    lineKey (receiveRequest p r s) = lineKey s := by
  obtain ⟨v, h⟩ := receiveRequest_eq p r s
  rw [h]; rfl

/-! ### Latched events -/

@[simp] theorem announce_latched (before after : State) (q : Port) :
    ((announce before after).port q).latched = (after.port q).latched := by
  rw [port_announce]
  split <;> simp

theorem latchOn_latched (choose : Port → Bool) (e : Event) (s : State) (q : Port) :
    ((latchOn choose e s).port q).latched
      = if choose q then (s.port q).latched ||| eventBit e else (s.port q).latched := by
  rw [port_latchOn]
  split <;> rfl

theorem placeReserved_latched (s : State) (p q : Port) (m : Message) :
    ((s.onPort p (·.placeReserved m)).port q).latched = (s.port q).latched := by
  rw [State.port_onPort]
  split
  · next h => rw [h]; rfl
  · rfl

/-- The answer of a query or command goes to its reserved entry, and latches nothing (R147, R148). -/
theorem placeAnswer_latched {r : Request} (hr : r.body.posted = false) (a : Answer) (s : State) (q : Port) :
    ((placeAnswer r a s).port q).latched = (s.port q).latched := by
  cases a with
  | nothing => rfl
  | response m => exact placeReserved_latched s r.port q _
  | refusal code detail =>
    simp only [placeAnswer, hr, Bool.false_eq_true, if_false]
    exact placeReserved_latched s r.port q _

theorem finished_latched {r : Request} (hr : r.body.posted = false) (a : Answer) (s s1 : State) (q : Port) :
    ((finished r a s s1).port q).latched = (s1.port q).latched := by
  rw [finished, announce_latched, placeAnswer_latched hr]
  rfl

/-- LINE_STATE stands in the status set of every port. -/
def LineRaised (s : State) : Prop := ∀ q, (s.port q).latched &&& 0x010 ≠ 0

theorem or_lineState_ne_zero (x : CondSet) : (x ||| 0x010) &&& 0x010 ≠ 0 := by
  intro h
  have h4 := congrArg (·.getLsbD 4) h
  simp at h4

theorem changeLine_latched (line : LineState) (s : State) (q : Port) :
    ((changeLine line s).port q).latched = (s.port q).latched ||| 0x010 :=
  latchOn_latched _ _ _ _

theorem lineRaised_finished_changeLine {r : Request} (hr : r.body.posted = false) (a : Answer) (s s1 : State)
    (line : LineState) : LineRaised (finished r a s (changeLine line s1)) := by
  intro q
  rw [finished_latched hr, changeLine_latched]
  exact or_lineState_ne_zero _

theorem lineRaised_raise (s : State) : LineRaised (raise everyPort .lineState s) := by
  intro q
  rw [raise, announce_latched, latchOn_latched]
  exact or_lineState_ne_zero _

/-! ### Commands that keep the line -/

/-- A request command leaves the line, or ends as its application leaves it (R153, R166). -/
theorem serve_line_cases {r : Request} {app : State → State × Answer} {s t : State} (h : serve r app s = .next t) :
    lineKey t = lineKey s
      ∨ ∃ b, lineKey b = lineKey s ∧ t = finished r (app b).2 b (app b).1 := by
  obtain ⟨-, e⟩ | ⟨-, -, e⟩ | ⟨-, -, e⟩ := serve_eq r app s <;> rw [e] at h <;> cases h
  · exact .inl rfl
  · exact .inl (lineKey_brought r s)
  · unfold applyHeld
    split
    · exact .inl ((lineKey_finished r _ _ _).trans (lineKey_brought r s))
    · exact .inr ⟨_, lineKey_brought r s, rfl⟩

theorem serve_lineKey {r : Request} {app : State → State × Answer} {s t : State}
    (happ : ∀ b, lineKey (app b).1 = lineKey b) (h : serve r app s = .next t) : lineKey t = lineKey s := by
  obtain h | ⟨b, hb, rfl⟩ := serve_line_cases h
  · exact h
  · rw [lineKey_finished, happ, hb]

theorem unlessHeld_lineKey {f : State → State} {s t : State} (hf : ∀ b, lineKey (f b) = lineKey b)
    (h : unlessHeld f s = .next t) : lineKey t = lineKey s := by
  unfold unlessHeld at h
  split at h <;> cases h
  · rfl
  · exact hf s

/-- A command without its permission changes nothing (R155). -/
theorem withPermission_fst (has : Perms → Bool) (p : Port) (app : State → State × Answer) (s : State) :
    (withPermission has p app s).1 = s ∨ (withPermission has p app s).1 = (app s).1 := by
  unfold withPermission
  split
  · exact .inr rfl
  · exact .inl rfl

theorem withPermission_lineKey {has : Perms → Bool} {p : Port} {app : State → State × Answer}
    (happ : ∀ b, lineKey (app b).1 = lineKey b) (s : State) : lineKey (withPermission has p app s).1 = lineKey s := by
  obtain h | h := withPermission_fst has p app s <;> rw [h]
  exact happ s

/-- A command of OPERATE leaves the line, or ends as its own application leaves it (R155). -/
theorem serve_operate_cases {r : Request} {p : Port} {app : State → State × Answer} {s t : State}
    (h : serve r (withOperate p app) s = .next t) :
    lineKey t = lineKey s ∨ ∃ b, lineKey b = lineKey s ∧ t = finished r (app b).2 b (app b).1 := by
  obtain h | ⟨b, hb, rfl⟩ := serve_line_cases h
  · exact .inl h
  · cases hperm : (b.station p).perms.operate with
    | false =>
      refine .inl ?_
      rw [lineKey_finished, withOperate, withPermission_lacking hperm, hb]
    | true =>
      refine .inr ⟨b, hb, ?_⟩
      rw [withOperate, withPermission_of hperm]

theorem takeReport_lineKey (permitted : Role → Bool) (p : Port) (number : Word) (lane : Octet)
    (check : Row → Recipe → Card → Option Code) (app : State → Row → Recipe → Card → Card) (s : State) :
    lineKey (takeReport permitted p number lane check app s).1 = lineKey s := by
  obtain ⟨_, _, h⟩ | ⟨_, _, _, -, -, -, -, h⟩ := takeReport_eq permitted p number lane check app s <;> rw [h]
  rfl

theorem withConditions_lineKey {app : CondSet → State → State × Answer} (conditions : Half)
    (happ : ∀ c b, lineKey (app c b).1 = lineKey b) (s : State) :
    lineKey (withConditions conditions app s).1 = lineKey s := by
  unfold withConditions
  split
  · exact happ _ s
  · rfl

theorem applySelectRecipe_lineKey (id : Octet) (s : State) : lineKey (applySelectRecipe id s).1 = lineKey s := by
  unfold applySelectRecipe
  split
  · rfl
  · split <;> rfl

theorem applyCondemn_lineKey (first : Word) (count mask : Octet) (s : State) :
    lineKey (applyCondemn first count mask s).1 = lineKey s := by
  unfold applyCondemn
  split
  · rfl
  · split <;> rfl

theorem applyStationModeSet_lineKey (p : Port) (target mode : Octet) (s : State) :
    lineKey (applyStationModeSet p target mode s).1 = lineKey s := by
  unfold applyStationModeSet
  split
  · rfl
  · split <;> rfl

theorem applyStationWrite_lineKey (target : Octet) (entry : StationArg) (s : State) :
    lineKey (applyStationWrite target entry s).1 = lineKey s := by
  unfold applyStationWrite
  split
  · rfl
  · split <;> rfl

theorem applyRecipeWrite_lineKey (id : Octet) (recipe : RecipeArg) (s : State) :
    lineKey (applyRecipeWrite id recipe s).1 = lineKey s := by
  unfold applyRecipeWrite
  split
  · rfl
  · split
    · rfl
    · split
      · rfl
      · split <;> rfl

theorem applyRetireRead_lineKey (count : Octet) (s : State) : lineKey (applyRetireRead count s).1 = lineKey s := by
  unfold applyRetireRead
  split <;> rfl

/-! ### Autoload -/

theorem lineKey_stopLoad (s : State) : lineKey (stopLoad s) = lineKey s := rfl

theorem lineKey_terminate (s : State) : lineKey (terminate s) = lineKey s := by
  unfold terminate
  split
  · exact lineKey_stopLoad s
  · split
    · rfl
    · split
      · split
        · rfl
        · exact lineKey_stopLoad s
      · exact lineKey_stopLoad s

/-- A good block writes a table or a setting, never the line (R168). -/
theorem loadBlock_lineKey {type : Octet} {body : List Octet} {s t : State} (h : loadBlock type body s = some t) :
    lineKey t = lineKey s := by
  unfold loadBlock at h
  split at h
  · unfold loadStation at h
    split at h
    · split at h <;> cases h
      rfl
    · cases h
  · unfold loadRecipe at h
    split at h
    · split at h
      · split at h <;> cases h
        rfl
      · cases h
    · cases h
  · obtain ⟨v, -, rfl⟩ := Option.map_eq_some_iff.mp h
    rfl
  · unfold loadLevels at h
    split at h <;> cases h
    rfl
  · unfold loadSelection at h
    split at h <;> cases h
    rfl
  · cases h

theorem lineKey_takeBlock (octets : List Octet) (s : State) : lineKey (takeBlock octets s) = lineKey s := by
  unfold takeBlock
  split
  · exact lineKey_stopLoad s
  · split
    · exact lineKey_terminate s
    · split
      · exact lineKey_stopLoad s
      · split
        · exact lineKey_stopLoad s
        · split
          · next hb =>
            have h := loadBlock_lineKey hb
            exact h
          · exact lineKey_stopLoad s

/-! ### Events of the pins, the links and the clock -/

theorem execResetRelease_lineKey {s t : State} (h : execResetRelease s = .next t) : lineKey t = lineKey s := by
  unfold execResetRelease at h
  split at h <;> cases h <;> rfl

theorem execAutoloadSignatureRead_lineKey {octets : List Octet} {s t : State}
    (h : execAutoloadSignatureRead octets s = .next t) : lineKey t = lineKey s := by
  refine unlessHeld_lineKey (fun b => ?_) h
  split
  · split <;> rfl
  · rfl

theorem execAutoloadBlockRead_lineKey {octets : List Octet} {s t : State}
    (h : execAutoloadBlockRead octets s = .next t) : lineKey t = lineKey s := by
  refine unlessHeld_lineKey (fun b => ?_) h
  split
  · exact lineKey_takeBlock octets b
  · rfl

theorem execAutoloadTerminator_lineKey {s t : State} (h : execAutoloadTerminator s = .next t) :
    lineKey t = lineKey s := by
  refine unlessHeld_lineKey (fun b => ?_) h
  split
  · exact lineKey_terminate b
  · rfl

theorem execIndexPulse_lineKey {s t : State} (h : execIndexPulse s = .next t) : lineKey t = lineKey s := by
  refine unlessHeld_lineKey (fun b => ?_) h
  split
  · rfl
  · split
    · rfl
    · split <;> rfl

theorem execFrameReceive_lineKey {p : Port} {octets : List Octet} {s t : State}
    (h : execFrameReceive p octets s = .next t) : lineKey t = lineKey s := by
  refine unlessHeld_lineKey (fun b => ?_) h
  split
  · rfl
  · split
    · rfl
    · exact lineKey_receiveRequest p _ b

theorem execLinkDown_lineKey {p : Port} {s t : State} (h : execLinkDown p s = .next t) : lineKey t = lineKey s := by
  refine unlessHeld_lineKey (fun b => ?_) h
  split <;> rfl

theorem execFrameSendStart_lineKey {p : Port} {s t : State} (h : execFrameSendStart p s = .next t) :
    lineKey t = lineKey s := by
  refine unlessHeld_lineKey (fun b => ?_) h
  split
  · split <;> rfl
  · rfl

theorem execFrameSendComplete_lineKey {p : Port} {s t : State} (h : execFrameSendComplete p s = .next t) :
    lineKey t = lineKey s := by
  refine unlessHeld_lineKey (fun b => ?_) h
  split <;> rfl

theorem execTimeTagTick_lineKey {s t : State} (h : execTimeTagTick s = .next t) : lineKey t = lineKey s := by
  refine unlessHeld_lineKey (fun b => ?_) h
  rfl

theorem execIdleFillReceive_lineKey {p : Port} {s t : State} (h : execIdleFillReceive p s = .next t) :
    lineKey t = lineKey s := by
  refine unlessHeld_lineKey (fun b => ?_) h
  rfl

/-- The commands outside `mayChangeLine` keep the line state, E and S1 (R1, R2, R165). -/
theorem exec_lineKey {c : Instr} {s t : State} (hc : mayChangeLine c = false) (h : exec c s = .next t) :
    lineKey t = lineKey s := by
  cases c
  case masterReset | advance | start | stopForming | purge => cases hc
  case resetRelease => exact execResetRelease_lineKey h
  case autoloadSignatureRead => exact execAutoloadSignatureRead_lineKey h
  case autoloadBlockRead => exact execAutoloadBlockRead_lineKey h
  case autoloadTerminator => exact execAutoloadTerminator_lineKey h
  case indexPulse => exact execIndexPulse_lineKey h
  case frameReceive => exact execFrameReceive_lineKey h
  case linkDown => exact execLinkDown_lineKey h
  case frameSendStart => exact execFrameSendStart_lineKey h
  case frameSendComplete => exact execFrameSendComplete_lineKey h
  case arbiterGrant => exact unlessHeld_lineKey lineKey_grantNext h
  case timeTagTick => exact execTimeTagTick_lineKey h
  case idleFillReceive => exact execIdleFillReceive_lineKey h
  case formResult | placement | inspection | sealHit | discharge =>
    exact serve_lineKey (takeReport_lineKey _ _ _ _ _ _) h
  case selectRecipe => exact serve_lineKey (withPermission_lineKey (applySelectRecipe_lineKey _)) h
  case condemn => exact serve_lineKey (withPermission_lineKey (applyCondemn_lineKey _ _ _)) h
  case stationModeSet => exact serve_lineKey (applyStationModeSet_lineKey _ _ _) h
  case stationWrite => exact serve_lineKey (withPermission_lineKey (applyStationWrite_lineKey _ _)) h
  case recipeWrite => exact serve_lineKey (withPermission_lineKey (applyRecipeWrite_lineKey _ _)) h
  case retireRead => exact serve_lineKey (withPermission_lineKey (applyRetireRead_lineKey _)) h
  case releaseHold | indexIntervalSet | traceLevelsSet | arbiterWrite =>
    exact serve_lineKey (withPermission_lineKey fun _ => rfl) h
  case lineStatus | stationRead | recipeRead | cardQuery | rowQuery | traceStatus | countersRead | arbiterRead
      | attnStatusRead =>
    exact serve_lineKey (fun _ => rfl) h
  case attnEnableSet | attnEnableClear | attnClear =>
    exact serve_lineKey (withConditions_lineKey _ fun _ _ => rfl) h

/-! ### The advance -/

/-- An advance in DRAIN: the rows moved and taken, then the end of draining (R9, R15). -/
theorem execAdvance_drain {s : State} (hr : s.resetHeld = false) (hd : 0 < s.advancesDue) (hl : s.line = .drain) :
    execAdvance s = .next (drainEnd (countIndex s) (advanceRows (countIndex s))) := by
  have hgo : ¬ (s.resetHeld = true ∨ s.advancesDue = 0) := by simp [hr]; omega
  simp only [execAdvance, if_neg hgo, hl]

/-- An advance in RUN forms a row of the selected recipe after its row work (R18). -/
theorem execAdvance_run {s t : State} (hr : s.resetHeld = false) (hd : 0 < s.advancesDue) (hl : s.line = .run)
    (h : execAdvance s = .next t) : ∃ id, t = formRow id (advanceRows (countIndex s)) := by
  have hgo : ¬ (s.resetHeld = true ∨ s.advancesDue = 0) := by simp [hr]; omega
  simp only [execAdvance, if_neg hgo, hl] at h
  split at h <;> cases h
  exact ⟨_, rfl⟩

/-- Every advance leaves the state, counts the index, and in RUN and DRAIN does the row work (R13, R15, R18). -/
theorem execAdvance_cases {s t : State} (h : execAdvance s = .next t) :
    ((s.resetHeld = true ∨ s.advancesDue = 0) ∧ t = s)
      ∨ s.line = .idle ∧ t = countIndex s
      ∨ s.line = .drain ∧ t = drainEnd (countIndex s) (advanceRows (countIndex s))
      ∨ s.line = .run ∧ ∃ id, s.selected = some id ∧ t = formRow id (advanceRows (countIndex s)) := by
  unfold execAdvance at h
  split at h
  · next hs => cases h; exact .inl ⟨hs, rfl⟩
  · simp only at h
    split at h
    · next hl => cases h; exact .inr (.inl ⟨hl, rfl⟩)
    · next hl => cases h; exact .inr (.inr (.inl ⟨hl, rfl⟩))
    · next hl =>
      split at h <;> cases h
      next id hid => exact .inr (.inr (.inr ⟨hl, id, hid, rfl⟩))

theorem foldl_takeRow_lineKey (rows : List Row) (s : State) : lineKey (rows.foldl takeRow s) = lineKey s := by
  induction rows generalizing s with
  | nil => rfl
  | cons r rows ih => rw [List.foldl_cons, ih]; simp [lineKey]

theorem foldl_takeRow_cardsFormed (rows : List Row) (s : State) :
    (rows.foldl takeRow s).cardsFormed = s.cardsFormed := by
  induction rows generalizing s with
  | nil => rfl
  | cons r rows ih => rw [List.foldl_cons, ih, takeRow_cardsFormed]

/-- Rows that have all reached E leave the map (R15, R17). -/
theorem foldl_takeRow_rows_of_exit {rows : List Row} {s : State} (h : ∀ r ∈ rows, s.exitOffset = some r.offset) :
    (rows.foldl takeRow s).rows = s.rows := by
  induction rows generalizing s with
  | nil => rfl
  | cons r rows ih =>
    obtain ⟨hr, hrows⟩ := List.forall_mem_cons.mp h
    rw [List.foldl_cons, ih (by simpa using hrows), takeRow_rows, if_pos hr]

theorem advanceRows_lineKey (s : State) : lineKey (advanceRows s) = lineKey s := foldl_takeRow_lineKey _ _

/-- Formation puts one row on the map and leaves the line (R18). -/
theorem formRow_line (id : RecipeId) (s : State) :
    lineKey (formRow id s) = lineKey s
      ∧ (formRow id s).rows
        = s.rows ++ [formedRow s.indexCount id (s.recipe id) (s.lastIndex.getD s.timeTag)] := by
  unfold formRow
  simp only
  split <;> simp [lineKey]

/-- The end of draining changes the line state with LINE_STATE raised, or leaves what the row work made (R9). -/
theorem drainEnd_cases (before after : State) :
    drainEnd before after = after
      ∨ drainEnd before after = raise everyPort .lineState { after with line := .idle } := by
  unfold drainEnd
  split
  · exact .inr rfl
  · exact .inl rfl

/-! ### ADVANCE, START, STOP_FORMING and PURGE on the line -/

theorem offsets_kept_of_lineKey {s t : State} (h : lineKey t = lineKey s) :
    t.exitOffset = s.exitOffset ∧ t.sealOffset = s.sealOffset ∧ (t.line = s.line ∨ LineRaised t) := by
  obtain ⟨hl, he, hs⟩ := lineKey_eq_iff.mp h
  exact ⟨he, hs, .inl hl⟩

theorem advance_line {s t : State} (h : exec .advance s = .next t) :
    t.exitOffset = s.exitOffset ∧ t.sealOffset = s.sealOffset ∧ (t.line = s.line ∨ LineRaised t) := by
  have hrows : lineKey (advanceRows (countIndex s)) = lineKey s := advanceRows_lineKey _
  obtain ⟨-, rfl⟩ | ⟨-, rfl⟩ | ⟨-, rfl⟩ | ⟨-, id, -, rfl⟩ := execAdvance_cases h
  · exact offsets_kept_of_lineKey rfl
  · exact offsets_kept_of_lineKey rfl
  · obtain e | e := drainEnd_cases (countIndex s) (advanceRows (countIndex s)) <;> rw [e]
    · exact offsets_kept_of_lineKey hrows
    · obtain ⟨-, he, hs⟩ := lineKey_eq_iff.mp hrows
      exact ⟨he, hs, .inr (lineRaised_raise _)⟩
  · exact offsets_kept_of_lineKey ((formRow_line id _).1.trans hrows)

theorem firstFailing_eq_none_iff (n : Nat) (checks : List Bool) :
    firstFailing n checks = none ↔ ∀ check ∈ checks, check = true := by
  induction checks generalizing n with
  | nil => simp [firstFailing]
  | cons ok rest ih => cases ok <;> simp [firstFailing, ih]

/-- START leaves the state, or takes a line that was not running to RUN with every check passed (R3, R5). -/
theorem applyStart_cases (s : State) :
    (applyStart s).1 = s
      ∨ s.line ≠ .run ∧ (∀ check ∈ startChecks s, check = true)
        ∧ (applyStart s).1 = changeLine .run { s with exitOffset := startExit s, sealOffset := lowestSeal s } := by
  unfold applyStart
  split
  · exact .inl rfl
  · next hl =>
    split
    · exact .inl rfl
    · next hc => exact .inr ⟨hl, (firstFailing_eq_none_iff _ _).mp hc, rfl⟩

/-- STOP_FORMING leaves the state, or takes a running line to IDLE or DRAIN (R6). -/
theorem applyStopForming_cases (s : State) :
    (applyStopForming s).1 = s ∨ s.line = .run ∧ ∃ line, (applyStopForming s).1 = changeLine line s := by
  unfold applyStopForming
  split
  · next hl => exact .inr ⟨hl, _, rfl⟩
  · exact .inl rfl

theorem start_line {p : Port} {tag : Octet} {s t : State} (h : exec (.start p tag) s = .next t) :
    lineKey t = lineKey s ∨ s.line ≠ .run ∧ t.line = .run ∧ LineRaised t := by
  obtain h | ⟨b, hb, rfl⟩ := serve_operate_cases h
  · exact .inl h
  obtain e | ⟨hl, -, e⟩ := applyStart_cases b
  · exact .inl (by rw [lineKey_finished, e, hb])
  · obtain ⟨hline, -, -⟩ := lineKey_eq_iff.mp hb
    rw [e]
    exact .inr ⟨hline ▸ hl, by simp [finished, changeLine], lineRaised_finished_changeLine rfl _ _ _ _⟩

theorem stopForming_line {p : Port} {tag : Octet} {s t : State} (h : exec (.stopForming p tag) s = .next t) :
    t.exitOffset = s.exitOffset ∧ t.sealOffset = s.sealOffset ∧ (t.line = s.line ∨ LineRaised t) := by
  obtain h | ⟨b, hb, rfl⟩ := serve_operate_cases h
  · exact offsets_kept_of_lineKey h
  obtain e | ⟨-, line, e⟩ := applyStopForming_cases b
  · exact offsets_kept_of_lineKey (by rw [lineKey_finished, e, hb])
  · obtain ⟨-, he, hs⟩ := lineKey_eq_iff.mp hb
    rw [e]
    exact ⟨by simpa [finished, changeLine] using he, by simpa [finished, changeLine] using hs,
      .inr (lineRaised_finished_changeLine rfl _ _ _ _)⟩

theorem purge_line {p : Port} {tag : Octet} {s t : State} (h : exec (.purge p tag) s = .next t) :
    t.line = s.line ∨ LineRaised t := by
  obtain h | ⟨b, -, rfl⟩ := serve_operate_cases h
  · exact .inl (lineKey_eq_iff.mp h).1
  · exact .inr (lineRaised_finished_changeLine rfl _ _ _ _)

/-- A command outside `mayChangeLine`, or one of the five inside it. -/
theorem mayChangeLine_cases (c : Instr) :
    mayChangeLine c = false ∨ c = .masterReset ∨ c = .advance ∨ (∃ p tag, c = .start p tag)
      ∨ (∃ p tag, c = .stopForming p tag) ∨ ∃ p tag, c = .purge p tag := by
  cases c <;> simp [mayChangeLine]

/-- Every change of the line state but master reset's raises LINE_STATE on every port (R2). -/
theorem exec_line_raised {c : Instr} {s t : State} (hc : c ≠ .masterReset) (h : exec c s = .next t) :
    t.line = s.line ∨ LineRaised t := by
  obtain hk | rfl | rfl | ⟨p, tag, rfl⟩ | ⟨p, tag, rfl⟩ | ⟨p, tag, rfl⟩ := mayChangeLine_cases c
  · exact .inl (lineKey_eq_iff.mp (exec_lineKey hk h)).1
  · exact absurd rfl hc
  · obtain ⟨-, -, hl⟩ := advance_line h
    exact hl
  · obtain hk | ⟨-, -, hr⟩ := start_line h
    · exact .inl (lineKey_eq_iff.mp hk).1
    · exact .inr hr
  · obtain ⟨-, -, hl⟩ := stopForming_line h
    exact hl
  · exact purge_line h

/-- E and S1 change only by master reset, PURGE and a START that takes the line to RUN (R5, R8). -/
theorem exec_offsets {c : Instr} {s t : State} (hc : c ≠ .masterReset) (hp : ∀ p tag, c ≠ .purge p tag)
    (h : exec c s = .next t) :
    (t.exitOffset = s.exitOffset ∧ t.sealOffset = s.sealOffset)
      ∨ ∃ p tag, c = .start p tag ∧ s.line ≠ .run ∧ t.line = .run := by
  obtain hk | rfl | rfl | ⟨p, tag, rfl⟩ | ⟨p, tag, rfl⟩ | ⟨p, tag, rfl⟩ := mayChangeLine_cases c
  · exact .inl (lineKey_eq_iff.mp (exec_lineKey hk h)).2
  · exact absurd rfl hc
  · obtain ⟨he, hs, -⟩ := advance_line h
    exact .inl ⟨he, hs⟩
  · obtain hk | ⟨hs, ht, -⟩ := start_line h
    · exact .inl (lineKey_eq_iff.mp hk).2
    · exact .inr ⟨p, tag, rfl, hs, ht⟩
  · obtain ⟨he, hs, -⟩ := stopForming_line h
    exact .inl ⟨he, hs⟩
  · exact absurd rfl (hp p tag)

/-! ### The end of draining, and the statements -/

/-- On a draining line whose every row stands one pitch before E the row work empties the map (R9, R15). -/
theorem advanceRows_rows_of_exit {s : State} (h : ∀ r ∈ s.rows, s.exitOffset = some (r.offset + 1)) :
    (advanceRows s).rows = [] := by
  refine foldl_takeRow_rows_of_exit (s := { s with rows := [] }) fun r hr => ?_
  obtain ⟨r0, hr0, rfl⟩ := List.mem_map.mp hr
  exact h r0 hr0

theorem drainEnd_of_emptied {before after : State} (hb : before.rows ≠ []) (ha : after.rows = []) :
    drainEnd before after = raise everyPort .lineState { after with line := .idle } :=
  if_pos ⟨hb, ha⟩

/-- A query or command of OPERATE in service whose application leaves the state, permitted or not, changes neither the
line state nor a latched event. -/
theorem serve_operate_unchanged {r : Request} {p : Port} {app : State → State × Answer} {s : State}
    (hs : InService r s) (hr : r.body.posted = false) (happ : (app s).1 = s) :
    ∃ t, serve r (withOperate p app) s = .next t ∧ t.line = s.line ∧ ∀ q, (t.port q).latched = (s.port q).latched := by
  have hsame : (withOperate p app s).1 = s := by
    obtain e | e := withPermission_fst (·.operate) p app s
    · exact e
    · exact e.trans happ
  refine ⟨_, serve_inService hs _, ?_, fun q => ?_⟩
  · rw [hsame]
    exact (lineKey_eq_iff.mp (lineKey_finished ..)).1
  · rw [hsame, finished_latched hr]

/-- Settles O24: the row work of the last rows empties the map, and `drainEnd` does the rest; in RUN formation follows
the row work; E and S1 by the commands that touch them. -/
theorem drainEndSetsIdle : Obligations.DrainEndSetsIdle := by
  refine ⟨fun s hr hd hl hrows hexit => ?_, fun s t hr hd hl h => ?_, fun c s t hc hp h => exec_offsets hc hp h⟩
  · have hempty : (advanceRows (countIndex s)).rows = [] := advanceRows_rows_of_exit hexit
    have hend : drainEnd (countIndex s) (advanceRows (countIndex s)) = _ := drainEnd_of_emptied hrows hempty
    have hkey : lineKey (advanceRows (countIndex s)) = lineKey s := advanceRows_lineKey _
    obtain ⟨-, he, hs⟩ := lineKey_eq_iff.mp hkey
    exact ⟨_, advanceRows (countIndex s), (execAdvance_drain hr hd hl).trans (congrArg _ hend), rfl, rfl, rfl, hempty,
      foldl_takeRow_cardsFormed _ _, he, hs, lineRaised_raise _⟩
  · obtain ⟨id, rfl⟩ := execAdvance_run hr hd hl h
    rw [(formRow_line id _).2]
    simp

/-- Settles O25: by the commands that may change the line; and START, STOP_FORMING and PURGE in service by what their
applications leave. -/
theorem lineChangesRaiseLineState : Obligations.LineChangesRaiseLineState := by
  refine ⟨fun c s t h hc hne => (exec_line_raised hc h).resolve_left hne, fun p tag s hs hperm => ?_,
    fun p tag s hs hstay => ?_, fun p tag s hs hl => ?_⟩
  · refine ⟨_, serve_inService hs _, fun q => ?_⟩
    rw [finished_latched rfl, withOperate, withPermission_of hperm]
    exact changeLine_latched _ _ _
  · refine serve_operate_unchanged hs rfl ?_
    obtain e | ⟨hrun, hpass, -⟩ := applyStart_cases s
    · exact e
    · obtain hl | ⟨check, hmem, hfail⟩ := hstay
      · exact absurd hl hrun
      · exact absurd (hpass check hmem) (by simp [hfail])
  · exact serve_operate_unchanged hs rfl ((applyStopForming_cases s).resolve_right fun h => hl h.1)

end Sys2Proof.Machine

/-! ## The judgement pass at S1 (chapter 5 section 5.4): which reason it finds, and what it does to a card -/

namespace Sys2Proof.Machine

/-! ### The reason found -/

/-- A failure tested by `f` on one cavity is found on a card exactly when some cavity of it passes the test. -/
theorem found_iff_anySpec {x : Reason} {f : CavitySpec → Cavity → Bool}
    (hf : ∀ spec cav, f spec cav = true ↔ Fails x spec cav) (r : Recipe) (c : Card) :
    Found r c x ↔ anySpec f r.cavities c.cavities = true := by
  simp [anySpec_iff, Found, CavityAt, hf, and_assoc]

theorem found_overCount_iff (r : Recipe) (c : Card) :
    Found r c .overCount ↔ anySpec overFails r.cavities c.cavities = true :=
  found_iff_anySpec (fun spec cav => by simp [overFails, Fails]) r c

theorem found_shortCount_iff (r : Recipe) (c : Card) :
    Found r c .shortCount ↔ anySpec shortFails r.cavities c.cavities = true :=
  found_iff_anySpec (fun spec cav => by simp [shortFails, Fails]) r c

theorem found_refillExhausted_iff (r : Recipe) (c : Card) :
    Found r c .refillExhausted ↔ anySpec exhaustedFails r.cavities c.cavities = true :=
  found_iff_anySpec (fun spec cav => by simp [exhaustedFails, Fails, Nat.one_le_iff_ne_zero]) r c

theorem found_notInspected_iff (r : Recipe) (c : Card) :
    Found r c .notInspected ↔ anySpec unverifiedFails r.cavities c.cavities = true :=
  found_iff_anySpec (fun spec cav => by simp [unverifiedFails, Fails]) r c

/-- The judgement pass finds the four reasons of R96 only. -/
theorem Found.reason_cases {r : Recipe} {c : Card} {x : Reason} (h : Found r c x) :
    x = .overCount ∨ x = .shortCount ∨ x = .refillExhausted ∨ x = .notInspected := by
  obtain ⟨i, spec, cav, -, hx⟩ := h
  cases x with
  | overCount => exact .inl rfl
  | shortCount => exact .inr (.inl rfl)
  | refillExhausted => exact .inr (.inr (.inl rfl))
  | notInspected => exact .inr (.inr (.inr rfl))
  | _ => exact hx.elim

/-- The pass takes the lowest-numbered reason found: the tests of the lower-numbered ones all fail (R97). -/
theorem judgedReason_eq_some_of_lowest {r : Recipe} {c : Card} {x : Reason} (hx : Found r c x)
    (hmin : ∀ y, Found r c y → reasonCode (some x) ≤ reasonCode (some y)) : judgedReason r c = some x := by
  have hlower : ∀ y, reasonCode (some y) < reasonCode (some x) → ¬ Found r c y :=
    fun y hy hf => Nat.not_lt.mpr (hmin y hf) hy
  obtain rfl | rfl | rfl | rfl := hx.reason_cases
  · rw [judgedReason, if_pos ((found_overCount_iff r c).mp hx)]
  · have hover := mt (found_overCount_iff r c).mpr (hlower _ (by decide))
    rw [judgedReason, if_neg hover, if_pos ((found_shortCount_iff r c).mp hx)]
  · have hover := mt (found_overCount_iff r c).mpr (hlower _ (by decide))
    have hshort := mt (found_shortCount_iff r c).mpr (hlower _ (by decide))
    rw [judgedReason, if_neg hover, if_neg hshort, if_pos ((found_refillExhausted_iff r c).mp hx)]
  · have hover := mt (found_overCount_iff r c).mpr (hlower _ (by decide))
    have hshort := mt (found_shortCount_iff r c).mpr (hlower _ (by decide))
    have hexhausted := mt (found_refillExhausted_iff r c).mpr (hlower _ (by decide))
    rw [judgedReason, if_neg hover, if_neg hshort, if_neg hexhausted, if_pos ((found_notInspected_iff r c).mp hx)]

theorem judgedReason_eq_none_of_not_found {r : Recipe} {c : Card} (h : ∀ x, ¬ Found r c x) :
    judgedReason r c = none := by
  rw [judgedReason, if_neg (mt (found_overCount_iff r c).mpr (h _)), if_neg (mt (found_shortCount_iff r c).mpr (h _)),
    if_neg (mt (found_refillExhausted_iff r c).mpr (h _)), if_neg (mt (found_notInspected_iff r c).mpr (h _))]

/-! ### The pass on one card -/

theorem Card.condemn_of_condemned {c : Card} (hc : c.reason ≠ none) (x : Reason) (p : Option Port) (o : Nat) :
    c.condemn x p o = c :=
  if_neg fun h => hc h.1

theorem Card.condemn_of_uncondemned {c : Card} (hc : c.reason = none) (hs : c.state ≠ .frozen) (x : Reason)
    (p : Option Port) (o : Nat) :
    c.condemn x p o = { c with reason := some x, station := p, condemnOffset := some o } :=
  if_pos ⟨hc, hs⟩

/-- A card that is not FROZEN ends the pass as JUDGED, from OPEN or as it was (R95). -/
theorem judged_if_opened {c : Card} (hs : c.state ≠ .frozen) :
    (if c.state = .opened then { c with state := .judged } else c) = { c with state := .judged } := by
  obtain ⟨lane, state, _⟩ := c
  cases state with
  | opened => rfl
  | judged => rfl
  | frozen => exact absurd rfl hs

/-- A card the pass finds nothing on only becomes JUDGED. -/
theorem judgeCard_of_nothing_found {r : Recipe} {c : Card} (o : Nat) (hs : c.state ≠ .frozen)
    (hr : judgedReason r c = none) : judgeCard r o c = { c with state := .judged } := by
  simp only [judgeCard, hr]
  exact judged_if_opened hs

/-- A condemned card keeps its reason, whatever the pass finds on it (R97). -/
theorem judgeCard_of_condemned {c : Card} (r : Recipe) (o : Nat) (hs : c.state ≠ .frozen) (hc : c.reason ≠ none) :
    judgeCard r o c = { c with state := .judged } := by
  cases hr : judgedReason r c with
  | none => exact judgeCard_of_nothing_found o hs hr
  | some x =>
    simp only [judgeCard, hr, Card.condemn_of_condemned hc]
    exact judged_if_opened hs

/-- A card the pass finds a reason on is condemned with it, with no station. -/
theorem judgeCard_of_found {r : Recipe} {c : Card} {x : Reason} (o : Nat) (hs : c.state ≠ .frozen)
    (hc : c.reason = none) (hr : judgedReason r c = some x) :
    judgeCard r o c = { c with state := .judged, reason := some x, station := none, condemnOffset := some o } := by
  simp only [judgeCard, hr, Card.condemn_of_uncondemned hc hs]
  exact judged_if_opened (c := { c with reason := some x, station := none, condemnOffset := some o }) hs

/-- The pass touches no cavity and leaves every card that is not FROZEN as JUDGED. -/
theorem judgeCard_cavities_state {c : Card} (r : Recipe) (o : Nat) (hs : c.state ≠ .frozen) :
    (judgeCard r o c).cavities = c.cavities ∧ (judgeCard r o c).state = .judged := by
  by_cases hc : c.reason = none
  · cases hr : judgedReason r c with
    | none => rw [judgeCard_of_nothing_found o hs hr]; exact ⟨rfl, rfl⟩
    | some x => rw [judgeCard_of_found o hs hc hr]; exact ⟨rfl, rfl⟩
  · rw [judgeCard_of_condemned r o hs hc]; exact ⟨rfl, rfl⟩

/-! ### The arrival at S1 -/

/-- The seal inhibit writes the summary only (R112). -/
theorem inhibitCard_eq (r : Recipe) (c : Card) : ∃ summary, inhibitCard r c = { c with summary := summary } := by
  unfold inhibitCard
  split
  · exact ⟨_, rfl⟩
  · exact ⟨c.summary, rfl⟩

/-- A card after the arrival at S1 is the judged one, but for the summary the SEAL brief may have written (R16). -/
theorem arriveAt_seal_card {s : State} {p : Port} {row : Row} (hp : (s.station p).role = .seal)
    (ho : s.sealOffset = some row.offset) {i : Nat} {c : Card} (hi : row.cards[i]? = some c) :
    ∃ summary, (arriveAt p row s).1.cards[i]?
      = some { judgeCard (s.recipe row.recipe) row.offset c with summary := summary } := by
  simp only [arriveAt, hp, if_pos ho]
  split
  · obtain ⟨summary, h⟩ := inhibitCard_eq (s.recipe row.recipe) (judgeCard (s.recipe row.recipe) row.offset c)
    exact ⟨summary, by simp [hi, h]⟩
  · exact ⟨_, by simp only [List.getElem?_map, hi]; rfl⟩

/-- Settles O20: the arrival at S1 is `judgeCard` on every card, which condemns with the lowest-numbered reason found,
keeps a reason already set, and otherwise sets the state alone. -/
theorem judgementLowestReason : Obligations.JudgementLowestReason := by
  intro s p row hp ho i c hi hs
  obtain ⟨summary, hcard⟩ := arriveAt_seal_card hp ho hi
  obtain ⟨hcav, hstate⟩ := judgeCard_cavities_state (s.recipe row.recipe) row.offset hs
  refine ⟨_, hcard, hstate, hcav, fun hc x hx hmin => ?_, fun hc hnone => ?_, fun x hc => ?_⟩
  · rw [judgeCard_of_found row.offset hs hc (judgedReason_eq_some_of_lowest hx hmin)]
    exact ⟨rfl, rfl, rfl⟩
  · rw [judgeCard_of_nothing_found row.offset hs (judgedReason_eq_none_of_not_found hnone)]
    exact hc
  · rw [judgeCard_of_condemned _ row.offset hs (by simp [hc])]
    exact ⟨hc, rfl, rfl⟩

end Sys2Proof.Machine

/-! ## The dose of a sealed hit and its accumulator (chapter 6 section 6.2) -/

namespace Sys2Proof.Machine

/-! ### The dose of one hit -/

theorem hitDose_of_le_tAct {tAct t : Nat} (h : t ≤ tAct) (w : Nat) : hitDose tAct t w = 0 := by
  simp [hitDose, Nat.sub_eq_zero_of_le h]

/-- The clamped temperature and dwell bound the dose: 3000 times 5000, divided by 1000 (R104, R108). -/
theorem hitDose_le (tAct : Nat) {t w : Nat} (ht : t ≤ 3000) (hw : w ≤ 5000) : hitDose tAct t w ≤ 15000 := by
  have hexcess : t - tAct ≤ 3000 := (Nat.sub_le t tAct).trans ht
  exact Nat.div_le_div_right (c := 1000) (Nat.mul_le_mul hexcess hw)

/-! ### The accumulator -/

theorem Seal.addDose_of_le {s : Seal} {d : Nat} (h : s.dose + d ≤ 65535) :
    s.addDose d = { s with dose := s.dose + d } := if_pos h

theorem Seal.addDose_of_lt {s : Seal} {d : Nat} (h : 65535 < s.dose + d) :
    s.addDose d = { s with dose := 65535, saturated := true } := if_neg (Nat.not_le.mpr h)

@[simp] theorem Seal.addDose_dose (s : Seal) (d : Nat) : (s.addDose d).dose = min 65535 (s.dose + d) := by
  obtain h | h := Nat.lt_or_ge 65535 (s.dose + d)
  · rw [addDose_of_lt h, Nat.min_eq_left h.le]
  · rw [addDose_of_le h, Nat.min_eq_right h]

@[simp] theorem Seal.addDose_saturated (s : Seal) (d : Nat) :
    (s.addDose d).saturated = (s.saturated || decide (65535 < s.dose + d)) := by
  obtain h | h := Nat.lt_or_ge 65535 (s.dose + d)
  · simp [addDose_of_lt h, h]
  · simp [addDose_of_le h, h]

@[simp] theorem Seal.addDose_hits (s : Seal) (d : Nat) : (s.addDose d).hits = s.hits := by
  unfold Seal.addDose; split <;> rfl
@[simp] theorem Seal.addDose_minPressure (s : Seal) (d : Nat) : (s.addDose d).minPressure = s.minPressure := by
  unfold Seal.addDose; split <;> rfl

/-- A hit that adds nothing leaves an accumulator within its limit as it is. -/
theorem Seal.addDose_zero {s : Seal} (h : s.dose ≤ 65535) : s.addDose 0 = s := addDose_of_le h

/-- A saturated accumulator stays as it is (R109). -/
theorem Seal.addDose_of_saturated {s : Seal} (hd : s.dose = 65535) (hs : s.saturated = true) (d : Nat) :
    s.addDose d = s := by
  obtain h | h := Nat.lt_or_ge 65535 (s.dose + d)
  · rw [addDose_of_lt h, ← hd, ← hs]
  · obtain rfl : d = 0 := by omega
    exact addDose_zero h

/-- Doses added one by one, each capped, give what the cap gives on their sum. -/
theorem Seal.foldl_addDose_dose {s : Seal} (doses : List Nat) (h : s.dose ≤ 65535) :
    (doses.foldl Seal.addDose s).dose = min 65535 (s.dose + doses.sum) := by
  induction doses generalizing s with
  | nil => simp [h]
  | cons d doses ih =>
    have hcapped : (s.addDose d).dose ≤ 65535 := by simp
    rw [List.foldl_cons, ih hcapped, addDose_dose, List.sum_cons]
    omega

/-- The flag says that the uncapped sum has exceeded the limit: the cap at an earlier hit hides nothing, for the flag
is set there and stays. -/
theorem Seal.foldl_addDose_saturated {s : Seal} (doses : List Nat) (h : s.dose ≤ 65535) :
    (doses.foldl Seal.addDose s).saturated = true ↔ s.saturated = true ∨ 65535 < s.dose + doses.sum := by
  induction doses generalizing s with
  | nil => simp [h]
  | cons d doses ih =>
    have hcapped : (s.addDose d).dose ≤ 65535 := by simp
    rw [List.foldl_cons, ih hcapped, addDose_saturated, addDose_dose, List.sum_cons, Bool.or_eq_true,
      decide_eq_true_iff, or_assoc]
    exact or_congr_right (by omega)

/-! ### A sealed hit on a card -/

/-- A condemnation gives its reason to a card that has none and is not FROZEN (R115). -/
theorem Card.condemn_reason_of_uncondemned {c : Card} (hc : c.reason = none) (hs : c.state ≠ .frozen) (x : Reason)
    (p : Option Port) (o : Nat) : (c.condemn x p o).reason = some x := by
  rw [Card.condemn_of_uncondemned hc hs]

/-- The minimum pressure after a hit is never above the hit's (R106). -/
theorem minPressureAfter_le (held : Option Nat) (q : Nat) : ∃ m, minPressureAfter held q = some m ∧ m ≤ q := by
  cases held with
  | none => exact ⟨q, rfl, le_rfl⟩
  | some m => exact ⟨min m q, rfl, Nat.min_le_right m q⟩

section
variable (p : Port) (o : Nat) (r : Recipe) (temperature dwell pressure : Nat) (c : Card)

/-- What a sealed hit does to the summary: the hits and the minimum pressure, then the dose of the clamped values; the
pressure check between them leaves it alone (R104, R106 to R109). -/
theorem applySealHit_summary : ∃ clamped, (applySealHit p o r true temperature dwell pressure c).summary
    = Seal.addDose { c.summary with
        clamped := clamped
        hits := c.summary.hits + 1
        minPressure := minPressureAfter c.summary.minPressure (min 1000 pressure) }
      (hitDose r.tAct (min 3000 temperature) (min 5000 dwell)) := ⟨_, rfl⟩

/-- The accumulator after a sealed hit depends on the hit's dose and the accumulator before, on nothing else of the
hit. -/
theorem applySealHit_dose : (applySealHit p o r true temperature dwell pressure c).summary.dose
    = (c.summary.addDose (hitDose r.tAct (min 3000 temperature) (min 5000 dwell))).dose := by
  obtain ⟨_, h⟩ := applySealHit_summary p o r temperature dwell pressure c
  simp [h]

/-- A sealed hit with its pressure below p_min condemns an uncondemned card SEAL_PRESSURE, whatever its dose (R107). -/
theorem applySealHit_reason_of_low_pressure (hq : min 1000 pressure < r.pMin) (hc : c.reason = none)
    (hs : c.state ≠ .frozen) :
    (applySealHit p o r true temperature dwell pressure c).reason = some .sealPressure := by
  simp only [applySealHit, if_pos hq, if_true]
  exact Card.condemn_reason_of_uncondemned (by exact hc) (by exact hs) _ _ _

/-- A sealed hit at or below T_act adds no dose, and still counts in the hits and the minimum pressure (R108). -/
theorem applySealHit_summary_of_le_tAct (ht : min 3000 temperature ≤ r.tAct) (hd : c.summary.dose ≤ 65535) :
    ∃ clamped, (applySealHit p o r true temperature dwell pressure c).summary
      = { c.summary with
          clamped := clamped
          hits := c.summary.hits + 1
          minPressure := minPressureAfter c.summary.minPressure (min 1000 pressure) } := by
  obtain ⟨clamped, h⟩ := applySealHit_summary p o r temperature dwell pressure c
  rw [hitDose_of_le_tAct ht, Seal.addDose_zero (by exact hd)] at h
  exact ⟨clamped, h⟩

end

/-! ### The freeze of a saturated card -/

/-- The dose test takes saturation before D_max is looked at (R117). -/
theorem doseReason_of_saturated (r : Recipe) {s : Seal} (h : s.saturated = true) : doseReason r s = some .sealHigh :=
  if_pos (.inl h)

/-! ### The statements -/

/-- Settles O33: the dose is a rounded-down quotient bounded by the clamps, and the summary after a sealed hit takes it
whatever the pressure check does. -/
theorem hitDose_holds : Obligations.HitDose := by
  refine ⟨fun tAct t w h => hitDose_of_le_tAct h w, fun tAct t w _ => ?_, fun tAct t w => hitDose_le tAct, by decide,
    fun t w ht => hitDose_of_le_tAct ht w, applySealHit_dose, fun p o r temperature dwell pressure c ht hd => ?_⟩
  · exact ⟨Nat.mul_div_le _ 1000, Nat.lt_mul_div_succ _ (by decide)⟩
  · obtain ⟨_, hsummary⟩ := applySealHit_summary_of_le_tAct p o r temperature dwell pressure c ht hd
    rw [hsummary]
    exact ⟨rfl, rfl, rfl, minPressureAfter_le _ _, applySealHit_reason_of_low_pressure p o r temperature dwell pressure c⟩

/-- Settles O34: one addition by its two cases, a list of them by induction, and the freeze by the dose test. -/
theorem doseAccumulator : Obligations.DoseAccumulator := by
  refine ⟨fun s d => ⟨Seal.addDose_of_le, Seal.addDose_of_lt, fun hd hs => Seal.addDose_of_saturated hd hs d,
    fun h => ?_⟩, fun s doses hd hs => ?_, fun r o c hsat hc hs => ?_⟩
  · rw [Seal.addDose_dose]
    omega
  · have hbound : s.dose ≤ 65535 := by omega
    rw [Seal.foldl_addDose_dose doses hbound, Seal.foldl_addDose_saturated doses hbound, hd]
    simp [hs]
  · simp only [freezeCard, doseReason_of_saturated r hsat]
    exact Card.condemn_reason_of_uncondemned hc hs _ _ _

end Sys2Proof.Machine

/-! ## What a command can make of the part, but for its ports -/

namespace Sys2Proof.Machine

/-! ### States that agree but for the ports, the engine, the phase pointer and the count of frames -/

/-- The state with its ports, its engine, its phase pointer and its number of frames sent replaced. -/
def State.withPorts (s : State) (v : PerPort PortBlock) (e : Option Request) (i : Fin 32) (n : Nat) : State :=
  { s with ports := v, engine := e, phase := i, freeCount := n }

/-- `t` is `s` but for the ports, the engine, the phase pointer and the number of frames sent. -/
def SameButPorts (s t : State) : Prop := ∃ v e i n, t = s.withPorts v e i n

theorem sameButPorts_of_eq {s t : State} (h : t = s.withPorts t.ports t.engine t.phase t.freeCount) :
    SameButPorts s t := ⟨_, _, _, _, h⟩

theorem SameButPorts.refl (s : State) : SameButPorts s s := sameButPorts_of_eq rfl

theorem SameButPorts.trans {s t u : State} (h : SameButPorts s t) (k : SameButPorts t u) : SameButPorts s u := by
  obtain ⟨v, e, i, n, rfl⟩ := h
  obtain ⟨v', e', i', n', rfl⟩ := k
  exact ⟨v', e', i', n', rfl⟩

theorem sameButPorts_onPorts (s : State) (f : Port → PortBlock → PortBlock) : SameButPorts s (s.onPorts f) :=
  sameButPorts_of_eq rfl

theorem sameButPorts_onPort (s : State) (p : Port) (f : PortBlock → PortBlock) : SameButPorts s (s.onPort p f) :=
  sameButPorts_of_eq rfl

theorem sameButPorts_announce (s t : State) : SameButPorts t (announce s t) := sameButPorts_onPorts _ _

theorem sameButPorts_latchOn (choose : Port → Bool) (e : Event) (s : State) : SameButPorts s (latchOn choose e s) :=
  sameButPorts_onPorts _ _

theorem sameButPorts_raise (choose : Port → Bool) (e : Event) (s : State) : SameButPorts s (raise choose e s) :=
  (sameButPorts_latchOn _ _ _).trans (sameButPorts_announce _ _)

theorem sameButPorts_placeAnswer (r : Request) (a : Answer) (s : State) : SameButPorts s (placeAnswer r a s) := by
  cases a with
  | nothing => exact .refl s
  | response m => exact sameButPorts_of_eq rfl
  | refusal code detail =>
    simp only [placeAnswer]
    split <;> exact sameButPorts_onPort _ _ _

theorem sameButPorts_finished (r : Request) (a : Answer) (s s1 : State) : SameButPorts s1 (finished r a s s1) :=
  (SameButPorts.trans (sameButPorts_of_eq rfl) (sameButPorts_placeAnswer r a { s1 with engine := none })).trans (sameButPorts_announce _ _)

theorem sameButPorts_receiveRequest (p : Port) (r : InReq) (s : State) : SameButPorts s (receiveRequest p r s) := by
  obtain ⟨v, h⟩ := receiveRequest_eq p r s
  exact ⟨v, _, _, _, h⟩

theorem sameButPorts_grantNext (s : State) : SameButPorts s (grantNext s) := by
  obtain h | ⟨i, p, q, rest, -, -, -, h⟩ := grantNext_eq s <;> rw [h]
  · exact .refl s
  · exact sameButPorts_of_eq rfl

theorem sameButPorts_brought (r : Request) (s : State) : SameButPorts s (brought r s) := by
  obtain ⟨v, e, i, h⟩ := brought_eq r s
  exact ⟨v, e, i, _, h⟩

theorem sameButPorts_offerBrief (p : Port) (b : Brief) (s : State) : SameButPorts s (offerBrief p b s).2 := by
  obtain ⟨-, h⟩ | ⟨-, h⟩ := offerBrief_eq p b s <;> rw [h]
  · exact sameButPorts_of_eq rfl
  · exact (sameButPorts_onPort _ _ _).trans (sameButPorts_announce _ _)

/-! ### The five reports -/

/-- A report's command, with its port, the row number and lane it names, the roles that may send it, its validation and
its application (R33, chapter 4). -/
inductive ReportOf : Instr → Port → Word → Octet → (Role → Bool) → (Row → Recipe → Card → Option Code) →
    (State → Row → Recipe → Card → Card) → Prop
  | formResult (p tag row lane splice outcomes) :
    ReportOf (.formResult p tag row lane splice outcomes) p row lane (· == .form)
      (fun _ r _ => checkForm splice outcomes r)
      (fun _ row _ => applyForm p row.offset (splice == 1) (outcomes.filterMap formOutcomeOf))
  | placement (p tag row lane pairs) :
    ReportOf (.placement p tag row lane pairs) p row lane (fun role => role == .feed || role == .topup)
      (fun _ r _ => checkCavities (pairs.map fun e => e.cavity.toNat) r)
      (fun s _ _ => applyPlacement s.stations p pairs)
  | inspection (p tag row lane entries) :
    ReportOf (.inspection p tag row lane entries) p row lane (· == .inspect)
      (fun _ r _ => checkInspection entries r)
      (fun s row r => applyInspection s.stations p row.offset r entries)
  | sealHit (p tag row lane sealed temperature dwell pressure) :
    ReportOf (.sealHit p tag row lane sealed temperature dwell pressure) p row lane (· == .seal)
      (fun _ _ c => checkSealHit p sealed c)
      (fun _ row r => applySealHit p row.offset r (sealed == 1) temperature.toNat dwell.toNat pressure.toNat)
  | discharge (p tag row lane outcome) :
    ReportOf (.discharge p tag row lane outcome) p row lane (· == .punch) (fun _ _ _ => checkDischarge outcome)
      (fun _ _ _ c => { c with discharge := dischargeOf outcome })

/-! ### The effects -/

/-- What a command can make of a state, but for the ports, the engine, the phase pointer and the number of frames
sent. -/
inductive Effect (s : State) : Instr → State → Prop
  | nothing (c) : Effect s c s
  | masterReset : Effect s .masterReset { State.reset with pending := s.pending }
  | resetRelease (held : s.resetHeld = true) : Effect s .resetRelease
      { s with resetHeld := false, timeTag := 0, load := .loading, loadAddr := 0, loadSelected := none }
  | signature (octets) (loading : s.load = .loading) : Effect s (.autoloadSignatureRead octets) { s with loadAddr := 2 }
  | signatureEnds (octets) (loading : s.load = .loading) : Effect s (.autoloadSignatureRead octets) (endLoad s)
  | block (octets type body s1 address) (loading : s.load = .loading) (good : loadBlock type body s = some s1) :
    Effect s (.autoloadBlockRead octets) { s1 with loadAddr := address }
  | loadEnds (c) (loading : s.load = .loading) (reads : c = .autoloadTerminator ∨ ∃ octets, c = .autoloadBlockRead octets) :
    Effect s c (endLoad s)
  | loadSelects (c id) (loading : s.load = .loading) (valid : (s.recipe id).valid = true)
      (reads : c = .autoloadTerminator ∨ ∃ octets, c = .autoloadBlockRead octets) :
    Effect s c (endLoad { s with selected := some id })
  | loadStops (c) (loading : s.load = .loading) (reads : c = .autoloadTerminator ∨ ∃ octets, c = .autoloadBlockRead octets) :
    Effect s c (endLoad { s with
      stations := defaultStations, recipes := defaultRecipes, selected := none, arbiter := defaultArbiter
      interval := defaultInterval, notify := defaultNotify, holdLevel := defaultHoldLevel })
  | accepted (ready : s.load = .ready) : Effect s .indexPulse
      { s with lastIndex := some s.timeTag, sinceLast := some 0, advancesDue := s.advancesDue + 1 }
  | glitch : Effect s .indexPulse { s with indexGlitches := s.indexGlitches + 1 }
  | indexCounted (idle : s.line = .idle) : Effect s .advance (countIndex s)
  | advancedInDrain (drain : s.line = .drain) :
    Effect s .advance (drainEnd (countIndex s) (advanceRows (countIndex s)))
  | advancedInRun (id) (run : s.line = .run) (selected : s.selected = some id) :
    Effect s .advance (formRow id (advanceRows (countIndex s)))
  | linkDown (p) : Effect s (.linkDown p) (s.setStation p { s.station p with mode := .offline })
  | tick : Effect s .timeTagTick
      { s with timeTag := s.timeTag + 1, sinceLast := s.sinceLast.map fun t => min Config.sinceLastStop (t + 1) }
  | report (c p number lane permitted check app row l card) (held : s.resetHeld = false) (ready : s.load = .ready)
      (kind : ReportOf c p number lane permitted check app) (admitted : screenReport permitted p number s = .ok row)
      (inRow : laneIn row lane = some l) (found : row.card l = some card)
      (valid : check row (s.recipe row.recipe) card = none) :
    Effect s c { s with
      rows := updateCard number l (fun c => app s row (s.recipe row.recipe) (joinReported p c)) s.rows }
  | start (p tag) (held : s.resetHeld = false) (ready : s.load = .ready) (stopped : s.line ≠ .run)
      (pass : ∀ check ∈ startChecks s, check = true) :
    Effect s (.start p tag) { s with line := .run, exitOffset := startExit s, sealOffset := lowestSeal s }
  | stopForming (p tag) (run : s.line = .run) :
    Effect s (.stopForming p tag) { s with line := if s.rows = [] then .idle else .drain }
  | selectRecipe (p tag o id) (valid : (s.recipe id).valid = true) :
    Effect s (.selectRecipe p tag o) { s with selected := some id }
  | purge (p tag) : Effect s (.purge p tag) { s with
      line := .idle, rows := [], cardsPurged := s.cardsPurged + BitVec.ofNat 32 (cardsOnMap s.rows)
      useCounts := Vector.replicate 16 0, exitOffset := none, sealOffset := none }
  | condemn (p tag first count mask) : Effect s (.condemn p tag first count mask)
      { s with rows := s.rows.map fun r => if inRowRange first count.toNat r.number then condemnRow mask r else r }
  | releaseHold (p tag) : Effect s (.releaseHold p tag) { s with fault := none }
  | stationModeSet (p tag target mode q m) :
    Effect s (.stationModeSet p tag target mode) (s.setStation q { s.station q with mode := m })
  | stationWrite (p tag target entry q e) (idle : s.line = .idle) (good : stationOf entry = some e) :
    Effect s (.stationWrite p tag target entry) (s.setStation q e)
  | recipeWrite (p tag o recipe id) (unused : s.useCount id = 0) (free : ¬ (s.selected = some id ∧ s.line = .run))
      (good : recipeRefusal recipe = none) :
    Effect s (.recipeWrite p tag o recipe) (s.setRecipe id (storedRecipe recipe))
  | indexIntervalSet (p tag v) : Effect s (.indexIntervalSet p tag v) { s with interval := storedInterval v }
  | traceLevelsSet (p tag n h) :
    Effect s (.traceLevelsSet p tag n h) { s with notify := storedNotify n, holdLevel := storedHoldLevel h }
  | arbiterWrite (p tag phases) : Effect s (.arbiterWrite p tag phases) { s with arbiter := storedArbiter phases }
  | retireRead (p tag n) : Effect s (.retireRead p tag n) { s with
      trace := s.trace.drop n.toNat
      cardsRead := s.cardsRead + BitVec.ofNat 32 (s.trace.take n.toNat).length }

/-- The effects of a command up to the ports. -/
def Effects (c : Instr) (s t : State) : Prop := ∃ u, Effect s c u ∧ SameButPorts u t

theorem Effect.effects {c : Instr} {s t u : State} (h : Effect s c u) (k : SameButPorts u t) : Effects c s t := ⟨u, h, k⟩

theorem effects_of_sameButPorts {s t : State} (c : Instr) (h : SameButPorts s t) : Effects c s t :=
  (Effect.nothing c).effects h

/-! ### Request commands -/

/-- An application of a request command has one of the command's effects; which, the ports, the engine and the phase
pointer do not decide. -/
def AppEffects (c : Instr) (app : State → State × Answer) : Prop :=
  ∀ s v e i, s.resetHeld = false → s.load = .ready → Effects c s (app (s.withPorts v e i s.freeCount)).1

theorem serve_effects {c : Instr} {r : Request} {app : State → State × Answer} {s t : State} (happ : AppEffects c app)
    (h : serve r app s = .next t) : Effects c s t := by
  obtain ⟨-, e⟩ | ⟨-, -, e⟩ | ⟨hr, -, e⟩ := serve_eq r app s <;> rw [e] at h <;> cases h
  · exact effects_of_sameButPorts c (.refl s)
  · exact effects_of_sameButPorts c (sameButPorts_brought r s)
  · obtain ⟨v, e, i, heq⟩ := brought_eq r s
    have hb : brought r s = s.withPorts v e i s.freeCount := heq
    have hend (a : Answer) (s1 : State) : SameButPorts s1 (finished r a (brought r s) s1) := sameButPorts_finished r a _ s1
    unfold applyHeld
    split
    · exact effects_of_sameButPorts c ((sameButPorts_brought r s).trans (hend _ _))
    · next hload =>
      have hready : s.load = .ready := by
        rw [hb] at hload
        cases hl : s.load with
        | ready => rfl
        | loading => exact absurd hl hload
      obtain ⟨u, hu, hsame⟩ := happ s v e i hr hready
      rw [← hb] at hsame
      exact ⟨u, hu, hsame.trans (hend _ _)⟩

theorem withPermission_effects {c : Instr} {has : Perms → Bool} {p : Port} {app : State → State × Answer}
    (happ : AppEffects c app) : AppEffects c (withPermission has p app) := by
  intro s v e i hr hl
  obtain h | h := withPermission_fst has p app (s.withPorts v e i s.freeCount) <;> rw [h]
  · exact effects_of_sameButPorts c (sameButPorts_of_eq rfl)
  · exact happ s v e i hr hl

/-- An application that leaves everything but the ports. -/
theorem appEffects_of_sameButPorts {c : Instr} {app : State → State × Answer} (h : ∀ b, SameButPorts b (app b).1) :
    AppEffects c app :=
  fun _ _ _ _ _ _ => effects_of_sameButPorts c (SameButPorts.trans (sameButPorts_of_eq rfl) (h _))

theorem takeReport_effects {c : Instr} {p : Port} {number : Word} {lane : Octet} {permitted : Role → Bool}
    {check : Row → Recipe → Card → Option Code} {app : State → Row → Recipe → Card → Card}
    (kind : ReportOf c p number lane permitted check app) :
    AppEffects c (takeReport permitted p number lane check app) := by
  intro s v e i hr hl
  obtain ⟨_, _, h⟩ | ⟨row, l, card, h1, h2, h3, h4, h⟩ :=
    takeReport_eq permitted p number lane check app (s.withPorts v e i s.freeCount) <;> rw [h]
  · exact effects_of_sameButPorts c (sameButPorts_of_eq rfl)
  · refine (Effect.report c p number lane permitted check app row l card hr hl kind h1 h2 h3 h4).effects (sameButPorts_of_eq ?_)
    cases kind <;> rfl

theorem applyStart_effects (p : Port) (tag : Octet) : AppEffects (.start p tag) applyStart := by
  intro s v e i hr hl
  obtain h | ⟨hrun, hpass, h⟩ := applyStart_cases (s.withPorts v e i s.freeCount) <;> rw [h]
  · exact effects_of_sameButPorts _ (sameButPorts_of_eq rfl)
  · exact (Effect.start p tag hr hl hrun hpass).effects (sameButPorts_of_eq rfl)

theorem applyStopForming_effects (p : Port) (tag : Octet) : AppEffects (.stopForming p tag) applyStopForming := by
  intro s v e i _ _
  unfold applyStopForming
  split
  · next hrun => exact (Effect.stopForming (s := s) p tag hrun).effects (sameButPorts_of_eq rfl)
  · exact effects_of_sameButPorts _ (sameButPorts_of_eq rfl)

theorem applySelectRecipe_effects (p : Port) (tag o : Octet) :
    AppEffects (.selectRecipe p tag o) (applySelectRecipe o) := by
  intro s v e i _ _
  unfold applySelectRecipe
  split
  · exact effects_of_sameButPorts _ (sameButPorts_of_eq rfl)
  · split
    · next hvalid => exact (Effect.selectRecipe (s := s) p tag o _ hvalid).effects (sameButPorts_of_eq rfl)
    · exact effects_of_sameButPorts _ (sameButPorts_of_eq rfl)

theorem applyCondemn_effects (p : Port) (tag : Octet) (first : Word) (count mask : Octet) :
    AppEffects (.condemn p tag first count mask) (applyCondemn first count mask) := by
  intro s v e i _ _
  unfold applyCondemn
  split
  · exact effects_of_sameButPorts _ (sameButPorts_of_eq rfl)
  · split
    · exact effects_of_sameButPorts _ (sameButPorts_of_eq rfl)
    · exact (Effect.condemn p tag first count mask).effects (sameButPorts_of_eq rfl)

theorem applyStationModeSet_effects (p : Port) (tag target mode : Octet) :
    AppEffects (.stationModeSet p tag target mode) (applyStationModeSet p target mode) := by
  intro s v e i _ _
  unfold applyStationModeSet
  split
  · exact effects_of_sameButPorts _ (sameButPorts_of_eq rfl)
  · split
    · exact (Effect.stationModeSet p tag target mode _ _).effects (sameButPorts_of_eq rfl)
    · exact effects_of_sameButPorts _ (sameButPorts_of_eq rfl)

theorem applyStationWrite_effects (p : Port) (tag target : Octet) (entry : StationArg) :
    AppEffects (.stationWrite p tag target entry) (applyStationWrite target entry) := by
  intro s v e i _ _
  unfold applyStationWrite
  split
  · exact effects_of_sameButPorts _ (sameButPorts_of_eq rfl)
  · next hidle =>
    split
    · next he => exact (Effect.stationWrite (s := s) p tag target entry _ _ (not_not.mp hidle) he).effects (sameButPorts_of_eq rfl)
    · exact effects_of_sameButPorts _ (sameButPorts_of_eq rfl)

theorem applyRecipeWrite_effects (p : Port) (tag o : Octet) (recipe : RecipeArg) :
    AppEffects (.recipeWrite p tag o recipe) (applyRecipeWrite o recipe) := by
  intro s v e i _ _
  unfold applyRecipeWrite
  split
  · exact effects_of_sameButPorts _ (sameButPorts_of_eq rfl)
  · split
    · exact effects_of_sameButPorts _ (sameButPorts_of_eq rfl)
    · next hunused =>
      split
      · exact effects_of_sameButPorts _ (sameButPorts_of_eq rfl)
      · next hfree =>
        split
        · exact effects_of_sameButPorts _ (sameButPorts_of_eq rfl)
        · next hgood =>
          exact (Effect.recipeWrite (s := s) p tag o recipe _ (not_not.mp hunused) hfree hgood).effects (sameButPorts_of_eq rfl)

theorem applyRetireRead_effects (p : Port) (tag n : Octet) : AppEffects (.retireRead p tag n) (applyRetireRead n) := by
  intro s v e i _ _
  unfold applyRetireRead
  split
  · exact effects_of_sameButPorts _ (sameButPorts_of_eq rfl)
  · exact (Effect.retireRead p tag n).effects (sameButPorts_of_eq rfl)

theorem withConditions_sameButPorts {app : CondSet → State → State × Answer} (conditions : Half)
    (happ : ∀ c b, SameButPorts b (app c b).1) (b : State) : SameButPorts b (withConditions conditions app b).1 := by
  unfold withConditions
  split
  · exact happ _ b
  · exact .refl b

/-! ### The other commands -/

theorem unlessHeld_effects {c : Instr} {f : State → State} {s t : State}
    (hf : s.resetHeld = false → Effects c s (f s)) (h : unlessHeld f s = .next t) : Effects c s t := by
  unfold unlessHeld at h
  split at h <;> cases h
  · exact effects_of_sameButPorts c (.refl s)
  · next hr => exact hf (by simpa using hr)

theorem stopLoad_effects {c : Instr} {s : State} (hl : s.load = .loading)
    (hc : c = .autoloadTerminator ∨ ∃ octets, c = .autoloadBlockRead octets) : Effects c s (stopLoad s) :=
  (Effect.loadStops c hl hc).effects (sameButPorts_raise _ _ _)

theorem terminate_effects {c : Instr} {s : State} (hl : s.load = .loading)
    (hc : c = .autoloadTerminator ∨ ∃ octets, c = .autoloadBlockRead octets) : Effects c s (terminate s) := by
  unfold terminate
  split
  · exact stopLoad_effects hl hc
  · split
    · exact (Effect.loadEnds c hl hc).effects (.refl _)
    · split
      · split
        · next hvalid => exact (Effect.loadSelects c _ hl hvalid hc).effects (.refl _)
        · exact stopLoad_effects hl hc
      · exact stopLoad_effects hl hc

theorem takeBlock_effects {s : State} (hl : s.load = .loading) (octets : List Octet) :
    Effects (.autoloadBlockRead octets) s (takeBlock octets s) := by
  unfold takeBlock
  split
  · exact stopLoad_effects hl (.inr ⟨_, rfl⟩)
  · split
    · exact terminate_effects hl (.inr ⟨_, rfl⟩)
    · split
      · exact stopLoad_effects hl (.inr ⟨_, rfl⟩)
      · split
        · exact stopLoad_effects hl (.inr ⟨_, rfl⟩)
        · split
          · next hb => exact (Effect.block _ _ _ _ _ hl hb).effects (.refl _)
          · exact stopLoad_effects hl (.inr ⟨_, rfl⟩)

theorem readingBlocks_loading {s : State} (h : readingBlocks s = true) : s.load = .loading := by
  simp only [readingBlocks, Bool.and_eq_true, beq_iff_eq] at h
  exact h.1

theorem execAdvance_effects {s t : State} (h : execAdvance s = .next t) : Effects .advance s t := by
  obtain ⟨-, rfl⟩ | ⟨hl, rfl⟩ | ⟨hl, rfl⟩ | ⟨hl, id, hid, rfl⟩ := execAdvance_cases h
  · exact effects_of_sameButPorts _ (.refl _)
  · exact (Effect.indexCounted hl).effects (.refl _)
  · exact (Effect.advancedInDrain hl).effects (.refl _)
  · exact (Effect.advancedInRun id hl hid).effects (.refl _)

theorem execIndexPulse_effects {s t : State} (h : execIndexPulse s = .next t) : Effects .indexPulse s t := by
  have haccept (hl : s.load ≠ .loading) : Effects .indexPulse s (acceptPulse s) := by
    have hready : s.load = .ready := by
      cases e : s.load with
      | ready => rfl
      | loading => exact absurd e hl
    exact (Effect.accepted hready).effects (sameButPorts_onPorts _ _)
  refine unlessHeld_effects (fun _ => ?_) h
  split
  · exact effects_of_sameButPorts _ (.refl s)
  · next hl =>
    split
    · exact haccept hl
    · split
      · exact haccept hl
      · exact Effect.glitch.effects (sameButPorts_raise _ _ _)

theorem execAutoloadSignatureRead_effects {octets : List Octet} {s t : State}
    (h : execAutoloadSignatureRead octets s = .next t) : Effects (.autoloadSignatureRead octets) s t := by
  refine unlessHeld_effects (fun _ => ?_) h
  split
  · next hl =>
    split
    · exact (Effect.signature octets hl.1).effects (.refl _)
    · exact (Effect.signatureEnds octets hl.1).effects (.refl _)
  · exact effects_of_sameButPorts _ (.refl s)

theorem execFrameReceive_sameButPorts {p : Port} {octets : List Octet} {s t : State}
    (h : execFrameReceive p octets s = .next t) : SameButPorts s t := by
  unfold execFrameReceive unlessHeld at h
  split at h <;> cases h
  · exact .refl s
  · split
    · exact sameButPorts_onPort _ _ _
    · split
      · exact (sameButPorts_onPort _ _ _).trans (sameButPorts_announce _ _)
      · exact sameButPorts_receiveRequest _ _ _

theorem execFrameSendStart_sameButPorts {p : Port} {s t : State} (h : execFrameSendStart p s = .next t) :
    SameButPorts s t := by
  unfold execFrameSendStart unlessHeld at h
  split at h <;> cases h
  · exact .refl s
  · simp only
    split
    · split
      · exact sameButPorts_of_eq rfl
      · exact .refl s
    · exact .refl s

theorem execTimeTagTick_effects {s t : State} (h : execTimeTagTick s = .next t) : Effects .timeTagTick s t := by
  refine unlessHeld_effects (fun _ => ?_) h
  exact Effect.tick.effects (sameButPorts_of_eq rfl)

theorem execIdleFillReceive_effects {p : Port} {s t : State} (h : execIdleFillReceive p s = .next t) :
    Effects (.idleFillReceive p) s t := by
  refine unlessHeld_effects (fun _ => ?_) h
  exact effects_of_sameButPorts _ (sameButPorts_onPort _ _ _)

/-- Every command's outcome is one of its effects, up to the ports. -/
theorem exec_effects {c : Instr} {s t : State} (h : exec c s = .next t) : Effects c s t := by
  cases c
  case masterReset =>
    cases h
    exact Effect.masterReset.effects (sameButPorts_of_eq rfl)
  case resetRelease =>
    change execResetRelease s = .next t at h
    unfold execResetRelease at h
    split at h <;> cases h
    · next hr => exact (Effect.resetRelease hr).effects (.refl _)
    · exact effects_of_sameButPorts _ (.refl s)
  case autoloadSignatureRead => exact execAutoloadSignatureRead_effects h
  case autoloadBlockRead octets =>
    refine unlessHeld_effects (fun _ => ?_) h
    split
    · next hb => exact takeBlock_effects (readingBlocks_loading hb) octets
    · exact effects_of_sameButPorts _ (.refl s)
  case autoloadTerminator =>
    refine unlessHeld_effects (fun _ => ?_) h
    split
    · next hb => exact terminate_effects (readingBlocks_loading hb) (.inl rfl)
    · exact effects_of_sameButPorts _ (.refl s)
  case indexPulse => exact execIndexPulse_effects h
  case advance => exact execAdvance_effects h
  case frameReceive => exact effects_of_sameButPorts _ (execFrameReceive_sameButPorts h)
  case linkDown p =>
    refine unlessHeld_effects (fun _ => ?_) h
    split
    · exact (Effect.linkDown p).effects (sameButPorts_of_eq rfl)
    · exact effects_of_sameButPorts _ (.refl s)
  case frameSendStart => exact effects_of_sameButPorts _ (execFrameSendStart_sameButPorts h)
  case frameSendComplete p =>
    refine unlessHeld_effects (fun _ => ?_) h
    split
    · exact effects_of_sameButPorts _ (sameButPorts_onPort _ _ _)
    · exact effects_of_sameButPorts _ (.refl s)
  case arbiterGrant =>
    refine unlessHeld_effects (fun _ => ?_) h
    exact effects_of_sameButPorts _ (sameButPorts_grantNext s)
  case timeTagTick => exact execTimeTagTick_effects h
  case idleFillReceive => exact execIdleFillReceive_effects h
  case formResult => exact serve_effects (takeReport_effects (.formResult ..)) h
  case placement => exact serve_effects (takeReport_effects (.placement ..)) h
  case inspection => exact serve_effects (takeReport_effects (.inspection ..)) h
  case sealHit => exact serve_effects (takeReport_effects (.sealHit ..)) h
  case discharge => exact serve_effects (takeReport_effects (.discharge ..)) h
  case start => exact serve_effects (withPermission_effects (applyStart_effects _ _)) h
  case stopForming => exact serve_effects (withPermission_effects (applyStopForming_effects _ _)) h
  case selectRecipe => exact serve_effects (withPermission_effects (applySelectRecipe_effects _ _ _)) h
  case purge p tag =>
    exact serve_effects (withPermission_effects fun s v e i _ _ => (Effect.purge p tag).effects (sameButPorts_of_eq rfl)) h
  case condemn => exact serve_effects (withPermission_effects (applyCondemn_effects _ _ _ _ _)) h
  case releaseHold p tag =>
    exact serve_effects (withPermission_effects fun s v e i _ _ => (Effect.releaseHold p tag).effects (sameButPorts_of_eq rfl)) h
  case stationModeSet => exact serve_effects (applyStationModeSet_effects _ _ _ _) h
  case stationWrite => exact serve_effects (withPermission_effects (applyStationWrite_effects _ _ _ _)) h
  case recipeWrite => exact serve_effects (withPermission_effects (applyRecipeWrite_effects _ _ _ _)) h
  case indexIntervalSet p tag v =>
    exact serve_effects (withPermission_effects fun s _ e i _ _ =>
      (Effect.indexIntervalSet p tag v).effects (sameButPorts_of_eq rfl)) h
  case traceLevelsSet p tag n k =>
    exact serve_effects (withPermission_effects fun s v e i _ _ =>
      (Effect.traceLevelsSet p tag n k).effects (sameButPorts_of_eq rfl)) h
  case arbiterWrite p tag phases =>
    exact serve_effects (withPermission_effects fun s v e i _ _ =>
      (Effect.arbiterWrite p tag phases).effects (sameButPorts_of_eq rfl)) h
  case retireRead => exact serve_effects (withPermission_effects (applyRetireRead_effects _ _ _)) h
  case lineStatus | stationRead | recipeRead | cardQuery | rowQuery | traceStatus | countersRead | arbiterRead
      | attnStatusRead =>
    exact serve_effects (appEffects_of_sameButPorts fun b => .refl b) h
  case attnEnableSet | attnEnableClear | attnClear =>
    exact serve_effects (appEffects_of_sameButPorts (withConditions_sameButPorts _ fun _ _ => sameButPorts_of_eq rfl)) h

/-- A step idles or runs the command at the front of the queue (log entry 1). -/
theorem step_cases {s t : State} (h : step s = .next t) :
    t = s ∨ ∃ c rest, exec c { s with pending := rest } = .next t := by
  unfold step at h
  split at h
  · cases h; exact .inl rfl
  · next c rest _ => exact .inr ⟨c, rest, h⟩

/-- A property of the state that reads neither the queue of commands nor the ports, and that every effect keeps, is kept
by every step. -/
theorem step_induction {P : State → Prop} {s t : State} (hs : P s) (hpending : ∀ s rest, P s → P { s with pending := rest })
    (hports : ∀ s t, SameButPorts s t → P s → P t) (heffect : ∀ c s t, Effect s c t → P s → P t)
    (h : step s = .next t) : P t := by
  obtain rfl | ⟨c, rest, h⟩ := step_cases h
  · exact hs
  · obtain ⟨u, hu, hut⟩ := exec_effects h
    exact hports _ _ hut (heffect c _ _ hu (hpending _ _ hs))

end Sys2Proof.Machine

/-! ## The advance: the work on the cards of a row, and what the row work leaves alone -/

namespace Sys2Proof.Machine

/-! ### The work on the cards of one row -/

/-- One piece of work of an advance on a card of `row`, which stands at its new offset: a close, a refill order, the
judgement, an inhibit or the freeze (R15, R16, R39). -/
inductive CardWork (s : State) (row : Row) : Card → Card → Prop
  | close (p c) (closes : closesAt (s.station p) row.offset = true) :
    CardWork s row c (closeCard s p (s.recipe row.recipe) row.offset c)
  | order (p outcome c) (role : (s.station p).role = .topup) (here : (s.station p).offset = row.offset) :
    CardWork s row c (orderCard s.stations p (s.recipe row.recipe) outcome c)
  | judge (p c) (role : (s.station p).role = .seal) (here : (s.station p).offset = row.offset)
      (first : s.sealOffset = some row.offset) :
    CardWork s row c (judgeCard (s.recipe row.recipe) row.offset c)
  | inhibit (p c) (role : (s.station p).role = .seal) (here : (s.station p).offset = row.offset) :
    CardWork s row c (inhibitCard (s.recipe row.recipe) c)
  | freeze (p c) (role : (s.station p).role = .punch) (here : (s.station p).offset = row.offset) :
    CardWork s row c (freezeCard (s.recipe row.recipe) row.offset c)

/-- Work done on a card, piece by piece. -/
abbrev CardWorked (s : State) (row : Row) : Card → Card → Prop := Relation.ReflTransGen (CardWork s row)

/-- The work of an advance on a row: the cards worked on one by one, and nothing else of the row changed. -/
def RowWork (s : State) (row row' : Row) : Prop :=
  ∃ f, row' = { row with cards := row.cards.map f } ∧ ∀ c, CardWorked s row c (f c)

theorem RowWork.refl (s : State) (row : Row) : RowWork s row row :=
  ⟨id, by simp, fun _ => .refl⟩

theorem RowWork.step {s : State} {row x : Row} (h : RowWork s row x) {g : Card → Card}
    (hg : ∀ c, CardWorked s row c (g c)) : RowWork s row { x with cards := x.cards.map g } := by
  obtain ⟨f, rfl, hf⟩ := h
  exact ⟨g ∘ f, by simp, fun c => (hf c).trans (hg _)⟩

theorem RowWork.offset_eq {s : State} {row x : Row} (h : RowWork s row x) : x.offset = row.offset := by
  obtain ⟨f, rfl, -⟩ := h
  rfl

theorem RowWork.recipe_eq {s : State} {row x : Row} (h : RowWork s row x) : x.recipe = row.recipe := by
  obtain ⟨f, rfl, -⟩ := h
  rfl

theorem RowWork.rowKey_eq {s : State} {row x : Row} (h : RowWork s row x) : rowKey x = rowKey row := by
  obtain ⟨f, rfl, -⟩ := h
  rfl

/-- What every piece of work on a card keeps, the work on the row keeps of all its cards. -/
theorem RowWork.forall_cards {s : State} {row row' : Row} {P : Card → Prop} (h : RowWork s row row')
    (hwork : ∀ c c', CardWork s row c c' → P c → P c') (hcards : ∀ c ∈ row.cards, P c) : ∀ c ∈ row'.cards, P c := by
  obtain ⟨f, rfl, hf⟩ := h
  intro c hc
  obtain ⟨c0, hc0, rfl⟩ := List.mem_map.mp hc
  have hP : ∀ d, CardWorked s row c0 d → P d := by
    intro d hd
    induction hd with
    | refl => exact hcards c0 hc0
    | tail _ hstep ih => exact hwork _ _ hstep ih
  exact hP _ (hf c0)

theorem closeCard_congr {s t : State} (h : t.stations = s.stations) (p : Port) (r : Recipe) (o : Nat) (c : Card) :
    closeCard t p r o c = closeCard s p r o c := by
  have hst (q : Port) : t.station q = s.station q := by simp [State.station, h]
  simp only [closeCard, closeWork, highestInspect, State.portsWith, hst, h]
  rfl

/-- The work on a card reads the station table, the recipes and S1, and nothing else of the state. -/
theorem CardWork.congr {s t : State} (h1 : t.stations = s.stations) (h2 : t.recipes = s.recipes)
    (h3 : t.sealOffset = s.sealOffset) {row : Row} {c c' : Card} (h : CardWork s row c c') : CardWork t row c c' := by
  have hst (q : Port) : t.station q = s.station q := by simp [State.station, h1]
  have hre : t.recipe row.recipe = s.recipe row.recipe := by simp [State.recipe, h2]
  cases h with
  | close p _ closes =>
    rw [← closeCard_congr h1, ← hre]
    exact .close p c (by rwa [hst])
  | order p outcome _ role here =>
    rw [← h1, ← hre]
    exact .order p outcome c (by rwa [hst]) (by rwa [hst])
  | judge p _ role here first =>
    rw [← hre]
    exact .judge p c (by rwa [hst]) (by rwa [hst]) (by rwa [h3])
  | inhibit p _ role here =>
    rw [← hre]
    exact .inhibit p c (by rwa [hst]) (by rwa [hst])
  | freeze p _ role here =>
    rw [← hre]
    exact .freeze p c (by rwa [hst]) (by rwa [hst])

theorem RowWork.congr {s t : State} (h1 : t.stations = s.stations) (h2 : t.recipes = s.recipes)
    (h3 : t.sealOffset = s.sealOffset) {row row' : Row} (h : RowWork s row row') : RowWork t row row' := by
  obtain ⟨f, hrow, hf⟩ := h
  exact ⟨f, hrow, fun c => Relation.ReflTransGen.mono (fun _ _ hw => hw.congr h1 h2 h3) _ _ (hf c)⟩

theorem rowWork_closeRow (s : State) (row : Row) : RowWork s row (closeRow s row) := by
  unfold closeRow
  suffices h : ∀ (l : List Port) (x : Row), RowWork s row x → RowWork s row (l.foldl (fun row p =>
      if closesAt (s.station p) row.offset then
        { row with cards := row.cards.map (closeCard s p (s.recipe row.recipe) row.offset) }
      else row) x) from h _ _ (.refl s row)
  intro l
  induction l with
  | nil => exact fun _ h => h
  | cons p l ih =>
    intro x hx
    rw [List.foldl_cons]
    apply ih
    split
    · next hc =>
      rw [hx.offset_eq] at hc
      have hclosed := hx.step fun c => .single (.close p c hc)
      rwa [← hx.offset_eq, ← hx.recipe_eq] at hclosed
    · exact hx

/-- An arrival works on the cards of the row and changes nothing of the state but the ports (R16). -/
theorem rowWork_arriveAt {s : State} {p : Port} {row : Row} (here : (s.station p).offset = row.offset) :
    RowWork s row (arriveAt p row s).1 ∧ SameButPorts s (arriveAt p row s).2 := by
  unfold arriveAt
  simp only
  split
  · exact ⟨.refl s row, sameButPorts_offerBrief _ _ _⟩
  · exact ⟨.refl s row, sameButPorts_offerBrief _ _ _⟩
  · next hrole =>
    exact ⟨(RowWork.refl s row).step fun c => .single (.order p _ c hrole here), sameButPorts_offerBrief _ _ _⟩
  · next hrole =>
    refine ⟨?_, sameButPorts_offerBrief _ _ _⟩
    have hjudged : RowWork s row (if s.sealOffset = some row.offset then
        { row with cards := row.cards.map (judgeCard (s.recipe row.recipe) row.offset) } else row) := by
      split
      · next hs => exact (RowWork.refl s row).step fun c => .single (.judge p c hrole here hs)
      · exact .refl s row
    generalize (if s.sealOffset = some row.offset then
        { row with cards := row.cards.map (judgeCard (s.recipe row.recipe) row.offset) } else row) = judged at hjudged
    split
    · exact hjudged.step fun c => .single (.inhibit p c hrole here)
    · exact hjudged
  · next hrole =>
    exact ⟨(RowWork.refl s row).step fun c => .single (.freeze p c hrole here), sameButPorts_offerBrief _ _ _⟩
  all_goals exact ⟨.refl s row, .refl s⟩

/-- What every arrival at a station at the row's offset keeps, all the arrivals of the row keep. -/
theorem arriveRow_induction_here (P : Row × State → Prop) (row : Row) (s : State) (h0 : P (row, s))
    (hs : ∀ p x, P x → (s.station p).offset = x.1.offset → P (arriveAt p x.1 x.2)) : P (arriveRow row s) := by
  unfold arriveRow
  suffices h : ∀ (l : List Port) (x : Row × State), P x →
      P (l.foldl (fun x p => if (s.station p).offset = x.1.offset then arriveAt p x.1 x.2 else x) x) from h _ _ h0
  intro l
  induction l with
  | nil => exact fun _ h => h
  | cons p l ih =>
    intro x h
    rw [List.foldl_cons]
    apply ih
    split
    · next hp => exact hs p x h hp
    · exact h

theorem SameButPorts.stations_eq {s t : State} (h : SameButPorts s t) : t.stations = s.stations := by
  obtain ⟨v, e, i, n, rfl⟩ := h; rfl
theorem SameButPorts.recipes_eq {s t : State} (h : SameButPorts s t) : t.recipes = s.recipes := by
  obtain ⟨v, e, i, n, rfl⟩ := h; rfl
theorem SameButPorts.sealOffset_eq {s t : State} (h : SameButPorts s t) : t.sealOffset = s.sealOffset := by
  obtain ⟨v, e, i, n, rfl⟩ := h; rfl

theorem RowWork.of_sameButPorts {s t : State} {row row' : Row} (h : SameButPorts s t) (hw : RowWork t row row') :
    RowWork s row row' :=
  hw.congr h.stations_eq.symm h.recipes_eq.symm h.sealOffset_eq.symm

theorem RowWork.trans {s : State} {row x y : Row} (h : RowWork s row x) (k : RowWork s x y) : RowWork s row y := by
  have hoffset := h.offset_eq
  have hrecipe := h.recipe_eq
  obtain ⟨g, rfl, hg⟩ := k
  refine h.step fun c => Relation.ReflTransGen.mono (fun a b hw => ?_) _ _ (hg c)
  cases hw with
  | close p _ closes => rw [hrecipe, hoffset]; exact .close p a (hoffset ▸ closes)
  | order p outcome _ role here => rw [hrecipe]; exact .order p outcome a role (hoffset ▸ here)
  | judge p _ role here first => rw [hrecipe, hoffset]; exact .judge p a role (hoffset ▸ here) (hoffset ▸ first)
  | inhibit p _ role here => rw [hrecipe]; exact .inhibit p a role (hoffset ▸ here)
  | freeze p _ role here => rw [hrecipe, hoffset]; exact .freeze p a role (hoffset ▸ here)

theorem rowWork_arriveRow (row : Row) (s : State) :
    RowWork s row (arriveRow row s).1 ∧ SameButPorts s (arriveRow row s).2 := by
  refine arriveRow_induction_here (fun x => RowWork s row x.1 ∧ SameButPorts s x.2) row s ⟨.refl s row, .refl s⟩
    fun p x hx here => ?_
  have here' : (x.2.station p).offset = x.1.offset := by
    rw [← here, State.station, State.station, hx.2.stations_eq]
  obtain ⟨hrow, hstate⟩ := rowWork_arriveAt here'
  exact ⟨hx.1.trans (hrow.of_sameButPorts hx.2), hx.2.trans hstate⟩

/-- A row's work: closes, then arrivals (R15). -/
def workedRow (s : State) (row : Row) : Row := (arriveRow (closeRow s row) s).1

theorem rowWork_workedRow (s : State) (row : Row) : RowWork s row (workedRow s row) :=
  (rowWork_closeRow s row).trans (rowWork_arriveRow _ s).1

/-! ### Offers on a port -/

/-- A block after offers to its outbound queue and events raised: only the queue, the pending mark, BRIEF_LOST and the
latched events may differ, and the queue's bound is kept. -/
structure Offered (b c : PortBlock) : Prop where
  link : c.link = b.link
  quiet : c.quiet = b.quiet
  inbound : c.inbound = b.inbound
  reserved : c.reserved = b.reserved
  sending : c.sending = b.sending
  credit : c.credit = b.credit
  enables : c.enables = b.enables
  linkErrors : c.linkErrors = b.linkErrors
  inboundOverruns : c.inboundOverruns = b.inboundOverruns
  refusalLost : c.refusalLost = b.refusalLost
  bounded : b.outbound.length + b.reserved ≤ Config.outboundSize → c.outbound.length + c.reserved ≤ Config.outboundSize

theorem Offered.refl (b : PortBlock) : Offered b b := ⟨rfl, rfl, rfl, rfl, rfl, rfl, rfl, rfl, rfl, rfl, id⟩

theorem Offered.trans {a b c : PortBlock} (h : Offered a b) (k : Offered b c) : Offered a c :=
  ⟨k.link.trans h.link, k.quiet.trans h.quiet, k.inbound.trans h.inbound, k.reserved.trans h.reserved,
    k.sending.trans h.sending, k.credit.trans h.credit, k.enables.trans h.enables, k.linkErrors.trans h.linkErrors,
    k.inboundOverruns.trans h.inboundOverruns, k.refusalLost.trans h.refusalLost, fun hb => k.bounded (h.bounded hb)⟩

theorem offered_place {b : PortBlock} (h : b.hasFree = true) (m : Message) : Offered b (b.place m) := by
  refine ⟨rfl, rfl, rfl, rfl, rfl, rfl, rfl, rfl, rfl, rfl, fun _ => ?_⟩
  rw [b.hasFree_iff] at h
  simp only [PortBlock.place, List.length_append, List.length_singleton]
  omega

theorem offered_offerAttention (b : PortBlock) : Offered b b.offerAttention := by
  obtain h | ⟨h, hfree⟩ | ⟨h, -⟩ := b.offerAttention_eq <;> rw [h]
  · exact .refl b
  · exact offered_place hfree _
  · exact ⟨rfl, rfl, rfl, rfl, rfl, rfl, rfl, rfl, rfl, rfl, id⟩

theorem offered_latch (e : Event) (b : PortBlock) : Offered b (latch e b) :=
  ⟨rfl, rfl, rfl, rfl, rfl, rfl, rfl, rfl, rfl, rfl, id⟩

theorem offered_latch_briefLost (b : PortBlock) : Offered b (latch .briefLost { b with briefLost := b.briefLost + 1 }) :=
  ⟨rfl, rfl, rfl, rfl, rfl, rfl, rfl, rfl, rfl, rfl, id⟩

/-! ### What the row work leaves alone -/

/-- The state with the fields that row work writes taken from another. -/
def State.withWork (s w : State) : State :=
  { s with
    rows := w.rows, useCounts := w.useCounts, trace := w.trace, cardsDropped := w.cardsDropped, goodLost := w.goodLost
    goodUnconfirmed := w.goodUnconfirmed, fault := w.fault, ports := w.ports }

/-- Row work leads from `s` to `t`: what it writes are rows, use counts, the trace queue, the counts of retirement, the
latch, and on the ports what offers and events write. -/
def Worked (s t : State) : Prop := (∃ w, t = s.withWork w) ∧ ∀ p, Offered (s.port p) (t.port p)

theorem Worked.refl (s : State) : Worked s s := ⟨⟨s, rfl⟩, fun p => .refl (s.port p)⟩

theorem Worked.trans {s t u : State} (h : Worked s t) (k : Worked t u) : Worked s u := by
  obtain ⟨⟨w, hw⟩, hp⟩ := h
  obtain ⟨⟨x, hx⟩, hq⟩ := k
  refine ⟨⟨x, ?_⟩, fun p => (hp p).trans (hq p)⟩
  rw [hx, hw]
  rfl

/-- A change of those fields that leaves the ports. -/
theorem worked_of_ports_eq {s t : State} (h : t = s.withWork t) (hp : t.ports = s.ports) : Worked s t :=
  ⟨⟨t, h⟩, fun p => by rw [State.port, State.port, hp]; exact .refl _⟩

theorem worked_onPort {s : State} {p : Port} {f : PortBlock → PortBlock} (h : Offered (s.port p) (f (s.port p))) :
    Worked s (s.onPort p f) := by
  refine ⟨⟨s.onPort p f, rfl⟩, fun q => ?_⟩
  rw [State.port_onPort]
  split
  · next hq => rw [hq]; exact h
  · exact .refl _

theorem worked_announce (s t : State) : Worked t (announce s t) := by
  refine ⟨⟨announce s t, rfl⟩, fun p => ?_⟩
  rw [port_announce]
  split
  · exact offered_offerAttention _
  · exact .refl _

theorem worked_raise (choose : Port → Bool) (e : Event) (s : State) : Worked s (raise choose e s) := by
  have hlatch : Worked s (latchOn choose e s) := by
    refine ⟨⟨latchOn choose e s, rfl⟩, fun p => ?_⟩
    rw [port_latchOn]
    split
    · exact offered_latch e _
    · exact .refl _
  exact hlatch.trans (worked_announce s _)

theorem worked_offerBrief (p : Port) (b : Brief) (s : State) : Worked s (offerBrief p b s).2 := by
  obtain ⟨hfree, h⟩ | ⟨-, h⟩ := offerBrief_eq p b s <;> rw [h]
  · exact worked_onPort (f := (·.place (.brief b))) (offered_place hfree _)
  · exact (worked_onPort (offered_latch_briefLost _)).trans (worked_announce s _)

theorem worked_arriveAt (p : Port) (row : Row) (s : State) : Worked s (arriveAt p row s).2 := by
  unfold arriveAt
  simp only
  split
  all_goals first | exact worked_offerBrief _ _ _ | exact .refl s

theorem worked_arriveRow (row : Row) (s : State) : Worked s (arriveRow row s).2 :=
  arriveRow_induction (fun x => Worked s x.2) row s (.refl s) fun p x h => h.trans (worked_arriveAt p x.1 x.2)

theorem worked_latchFault (row : Row) (c : Card) (s : State) : Worked s (latchFault row c s) := by
  unfold latchFault
  split
  · exact .refl s
  · exact worked_of_ports_eq rfl rfl

theorem worked_reconcile (row : Row) (c : Card) (s : State) : Worked s (reconcile row c s) := by
  unfold reconcile
  split
  · exact worked_raise _ _ _
  · exact .refl s
  · exact .refl s
  · exact worked_of_ports_eq rfl rfl
  · exact worked_of_ports_eq rfl rfl
  · exact (worked_latchFault row c s).trans (worked_announce _ _)
  · exact (worked_latchFault row c s).trans (worked_announce _ _)

theorem worked_offerRecord (rec : RetireRecord) (s : State) : Worked s (offerRecord rec s) := by
  unfold offerRecord
  split
  · exact (worked_of_ports_eq (t := { s with trace := s.trace ++ [rec] }) rfl rfl).trans (worked_announce s _)
  · exact (worked_of_ports_eq (t := { s with cardsDropped := s.cardsDropped + 1 }) rfl rfl).trans (worked_raise _ _ _)

theorem worked_retireCards (row : Row) (cards : List Card) (s : State) : Worked s (cards.foldl (retireCard row) s) := by
  induction cards generalizing s with
  | nil => exact .refl s
  | cons c cards ih => exact ((worked_reconcile row c s).trans (worked_offerRecord _ _)).trans (ih _)

theorem worked_retireRow (row : Row) (s : State) : Worked s (retireRow row s) :=
  (worked_retireCards row row.cards s).trans (worked_of_ports_eq rfl rfl)

theorem worked_takeRow (s : State) (row : Row) : Worked s (takeRow s row) := by
  have harrive := worked_arriveRow (closeRow s row) s
  unfold takeRow
  simp only
  split
  · exact harrive.trans (worked_retireRow _ _)
  · exact harrive.trans (worked_of_ports_eq rfl rfl)

theorem worked_foldl_takeRow (rows : List Row) (s : State) : Worked s (rows.foldl takeRow s) := by
  induction rows generalizing s with
  | nil => exact .refl s
  | cons r rows ih => exact (worked_takeRow s r).trans (ih _)

theorem worked_advanceRows (s : State) : Worked s (advanceRows s) :=
  Worked.trans (t := { s with rows := [] }) (worked_of_ports_eq rfl rfl) (worked_foldl_takeRow _ _)

/-! ### The fields that the row work leaves alone, read off `Worked` -/

section
variable {s t : State}

theorem Worked.pending_eq (h : Worked s t) : t.pending = s.pending := by obtain ⟨⟨w, rfl⟩, -⟩ := h; rfl
theorem Worked.resetHeld_eq (h : Worked s t) : t.resetHeld = s.resetHeld := by obtain ⟨⟨w, rfl⟩, -⟩ := h; rfl
theorem Worked.line_eq (h : Worked s t) : t.line = s.line := by obtain ⟨⟨w, rfl⟩, -⟩ := h; rfl
theorem Worked.exitOffset_eq (h : Worked s t) : t.exitOffset = s.exitOffset := by obtain ⟨⟨w, rfl⟩, -⟩ := h; rfl
theorem Worked.sealOffset_eq (h : Worked s t) : t.sealOffset = s.sealOffset := by obtain ⟨⟨w, rfl⟩, -⟩ := h; rfl
theorem Worked.indexCount_eq (h : Worked s t) : t.indexCount = s.indexCount := by obtain ⟨⟨w, rfl⟩, -⟩ := h; rfl
theorem Worked.stations_eq (h : Worked s t) : t.stations = s.stations := by obtain ⟨⟨w, rfl⟩, -⟩ := h; rfl
theorem Worked.recipes_eq (h : Worked s t) : t.recipes = s.recipes := by obtain ⟨⟨w, rfl⟩, -⟩ := h; rfl
theorem Worked.selected_eq (h : Worked s t) : t.selected = s.selected := by obtain ⟨⟨w, rfl⟩, -⟩ := h; rfl
theorem Worked.timeTag_eq (h : Worked s t) : t.timeTag = s.timeTag := by obtain ⟨⟨w, rfl⟩, -⟩ := h; rfl
theorem Worked.load_eq (h : Worked s t) : t.load = s.load := by obtain ⟨⟨w, rfl⟩, -⟩ := h; rfl
theorem Worked.engine_eq (h : Worked s t) : t.engine = s.engine := by obtain ⟨⟨w, rfl⟩, -⟩ := h; rfl
theorem Worked.station_eq (h : Worked s t) (p : Port) : t.station p = s.station p := by
  rw [State.station, State.station, h.stations_eq]
theorem Worked.recipe_eq (h : Worked s t) (id : RecipeId) : t.recipe id = s.recipe id := by
  rw [State.recipe, State.recipe, h.recipes_eq]

theorem RowWork.of_worked {row row' : Row} (h : Worked s t) (hw : RowWork t row row') : RowWork s row row' :=
  hw.congr h.stations_eq.symm h.recipes_eq.symm h.sealOffset_eq.symm

end

/-! ### The rows after the row work -/

/-- The rows that an advance has moved and that stay on the map: those that have not reached E (R15). -/
def staying (s : State) (rows : List Row) : List Row := rows.filter fun r => s.exitOffset ≠ some r.offset

/-- The rows that have reached E (R15). -/
def leaving (s : State) (rows : List Row) : List Row := rows.filter fun r => s.exitOffset = some r.offset

/-- The work of a row in an advance that began in `s`: its closes and arrivals, in the state the rows before it have
left (R15). -/
def RowTaken (s : State) (row row' : Row) : Prop := ∃ t, Worked s t ∧ row' = workedRow t row

theorem RowTaken.of_worked {s t : State} {row row' : Row} (h : Worked s t) (k : RowTaken t row row') :
    RowTaken s row row' := by
  obtain ⟨u, hu, rfl⟩ := k
  exact ⟨u, h.trans hu, rfl⟩

theorem RowTaken.rowWork {s : State} {row row' : Row} (h : RowTaken s row row') : RowWork s row row' := by
  obtain ⟨t, ht, rfl⟩ := h
  exact RowWork.of_worked ht (rowWork_workedRow t row)

/-- The rows that stay go back on the map in order, each worked on (R15). -/
theorem foldl_takeRow_rows (rows : List Row) (s : State) :
    ∃ worked, (rows.foldl takeRow s).rows = s.rows ++ worked ∧ List.Forall₂ (RowTaken s) (staying s rows) worked := by
  induction rows generalizing s with
  | nil => exact ⟨[], by simp, .nil⟩
  | cons r rows ih =>
    obtain ⟨worked, hrows, hworked⟩ := ih (takeRow s r)
    have hw := worked_takeRow s r
    have hstay : staying (takeRow s r) rows = staying s rows := by rw [staying, staying, hw.exitOffset_eq]
    have hworked' : List.Forall₂ (RowTaken s) (staying s rows) worked :=
      hstay ▸ hworked.imp fun _ _ h => RowTaken.of_worked hw h
    rw [List.foldl_cons, hrows, takeRow_rows]
    by_cases hexit : s.exitOffset = some r.offset
    · exact ⟨worked, by rw [if_pos hexit], by simpa [staying, hexit] using hworked'⟩
    · refine ⟨workedRow s r :: worked, by rw [if_neg hexit]; simp [workedRow], ?_⟩
      have : staying s (r :: rows) = r :: staying s rows := by simp [staying, hexit]
      rw [this]
      exact .cons ⟨s, .refl s, rfl⟩ hworked'

theorem worked_emptied (s : State) : Worked s { s with rows := [] } := worked_of_ports_eq rfl rfl

theorem advanceRows_taken (s : State) :
    List.Forall₂ (RowTaken s) (staying s (moveRows s.rows)) (advanceRows s).rows := by
  obtain ⟨worked, hrows, hworked⟩ := foldl_takeRow_rows (moveRows s.rows) { s with rows := [] }
  rw [advanceRows, hrows, List.nil_append]
  exact hworked.imp fun _ _ h => RowTaken.of_worked (worked_emptied s) h

theorem advanceRows_rows (s : State) :
    List.Forall₂ (RowWork s) (staying s (moveRows s.rows)) (advanceRows s).rows :=
  (advanceRows_taken s).imp fun _ _ h => h.rowWork

theorem exists_of_mem_forall₂ {α β : Type} {R : α → β → Prop} {l : List α} {m : List β} (h : List.Forall₂ R l m) {b : β}
    (hb : b ∈ m) : ∃ a ∈ l, R a b := by
  induction h with
  | nil => cases hb
  | cons hr _ ih =>
    obtain rfl | hb := List.mem_cons.mp hb
    · exact ⟨_, List.mem_cons_self, hr⟩
    · obtain ⟨a, ha, hr⟩ := ih hb
      exact ⟨a, List.mem_cons_of_mem _ ha, hr⟩

/-- Every row after the row work comes from a row that stood one pitch before and has not reached E (R15). -/
theorem mem_advanceRows_taken {s : State} {row' : Row} (h : row' ∈ (advanceRows s).rows) :
    ∃ row ∈ s.rows, s.exitOffset ≠ some (row.offset + 1) ∧ RowTaken s (moved row) row' := by
  obtain ⟨x, hx, hw⟩ := exists_of_mem_forall₂ (advanceRows_taken s) h
  obtain ⟨hx, hstay⟩ := List.mem_filter.mp hx
  obtain ⟨row, hrow, rfl⟩ := List.mem_map.mp hx
  exact ⟨row, hrow, by simpa using hstay, hw⟩

theorem mem_advanceRows {s : State} {row' : Row} (h : row' ∈ (advanceRows s).rows) :
    ∃ row ∈ s.rows, s.exitOffset ≠ some (row.offset + 1) ∧ RowWork s (moved row) row' := by
  obtain ⟨row, hrow, hexit, h⟩ := mem_advanceRows_taken h
  exact ⟨row, hrow, hexit, h.rowWork⟩

end Sys2Proof.Machine

/-! ## Retirement: the records offered, the counts and the use counts -/

namespace Sys2Proof.Machine

/-! ### Records offered to the trace queue -/

/-- From `s` to `t` some records were offered to the trace queue: those that found room joined it, the others were
counted, and a latch already set was kept (R124, R132, R133). -/
structure RecordsOffered (records : List RetireRecord) (s t : State) : Prop where
  trace : ∃ joined, t.trace = s.trace ++ joined ∧ ∀ rec ∈ joined, rec ∈ records
  counted : t.cardsDropped + BitVec.ofNat 32 t.trace.length
    = s.cardsDropped + BitVec.ofNat 32 (s.trace.length + records.length)
  bounded : s.trace.length ≤ Config.traceSize → t.trace.length ≤ Config.traceSize
  fault : ∀ f, s.fault = some f → t.fault = some f

theorem recordsOffered_nil {s t : State} (h1 : t.trace = s.trace) (h2 : t.cardsDropped = s.cardsDropped)
    (h3 : ∀ f, s.fault = some f → t.fault = some f) : RecordsOffered [] s t :=
  ⟨⟨[], by simp [h1], by simp⟩, by simp [h1, h2], by simp [h1], h3⟩

theorem RecordsOffered.trans {a b : List RetireRecord} {s t u : State} (h : RecordsOffered a s t)
    (k : RecordsOffered b t u) : RecordsOffered (a ++ b) s u := by
  obtain ⟨x, hx, hxa⟩ := h.trace
  obtain ⟨y, hy, hyb⟩ := k.trace
  refine ⟨⟨x ++ y, by rw [hy, hx, List.append_assoc], fun rec hrec => ?_⟩, ?_, fun hs => k.bounded (h.bounded hs),
    fun f hf => k.fault f (h.fault f hf)⟩
  · obtain hrec | hrec := List.mem_append.mp hrec
    · exact List.mem_append_left _ (hxa rec hrec)
    · exact List.mem_append_right _ (hyb rec hrec)
  · have h1 := h.counted
    rw [k.counted, BitVec.ofNat_add, ← BitVec.add_assoc, h1, List.length_append, BitVec.add_assoc, ← BitVec.ofNat_add,
      Nat.add_assoc]

theorem recordsOffered_sameButPorts {s t : State} (h : SameButPorts s t) : RecordsOffered [] s t := by
  obtain ⟨v, e, i, n, rfl⟩ := h
  exact recordsOffered_nil rfl rfl fun _ hf => hf

theorem recordsOffered_latchFault (row : Row) (c : Card) (s : State) : RecordsOffered [] s (latchFault row c s) := by
  unfold latchFault
  split
  · exact recordsOffered_nil rfl rfl fun _ hf => hf
  · next h => exact recordsOffered_nil rfl rfl fun f hf => absurd (by rw [hf]; rfl) h

theorem recordsOffered_reconcile (row : Row) (c : Card) (s : State) : RecordsOffered [] s (reconcile row c s) := by
  unfold reconcile
  split
  · exact recordsOffered_sameButPorts (sameButPorts_raise _ _ _)
  · exact recordsOffered_nil rfl rfl fun _ hf => hf
  · exact recordsOffered_nil rfl rfl fun _ hf => hf
  · exact recordsOffered_nil rfl rfl fun _ hf => hf
  · exact recordsOffered_nil rfl rfl fun _ hf => hf
  · exact (recordsOffered_latchFault row c s).trans (recordsOffered_sameButPorts (sameButPorts_announce _ _))
  · exact (recordsOffered_latchFault row c s).trans (recordsOffered_sameButPorts (sameButPorts_announce _ _))

theorem recordsOffered_offerRecord (rec : RetireRecord) (s : State) : RecordsOffered [rec] s (offerRecord rec s) := by
  unfold offerRecord
  split
  · next h =>
    exact ⟨⟨[rec], rfl, fun _ => id⟩, by simp, fun _ => by simpa using h, fun _ hf => hf⟩
  · refine ⟨⟨[], by simp, by simp⟩, ?_, fun hs => by simpa using hs, fun _ hf => hf⟩
    simp only [raise_cardsDropped, raise_trace, List.length_singleton, BitVec.ofNat_add]
    ac_rfl

/-- The records that a row's retirement offers, in lane order (R17, R130). -/
def retireRecords (s : State) (row : Row) : List RetireRecord :=
  row.cards.map (retireRecord row (s.recipe row.recipe) s.timeTag)

theorem recordsOffered_retireCards (row : Row) (cards : List Card) (s : State) :
    RecordsOffered (cards.map (retireRecord row (s.recipe row.recipe) s.timeTag)) s (cards.foldl (retireCard row) s) := by
  induction cards generalizing s with
  | nil => exact recordsOffered_nil rfl rfl fun _ hf => hf
  | cons c cards ih =>
    have hcard : RecordsOffered [retireRecord row (s.recipe row.recipe) s.timeTag c] s (retireCard row s c) :=
      (recordsOffered_reconcile row c s).trans (recordsOffered_offerRecord _ _)
    have hwork : Worked s (retireCard row s c) := (worked_reconcile row c s).trans (worked_offerRecord _ _)
    have hrest := ih (retireCard row s c)
    rw [hwork.recipe_eq, hwork.timeTag_eq] at hrest
    exact hcard.trans hrest

theorem recordsOffered_retireRow (row : Row) (s : State) : RecordsOffered (retireRecords s row) s (retireRow row s) := by
  have h := recordsOffered_retireCards row row.cards s
  exact ⟨h.trace, h.counted, h.bounded, h.fault⟩

/-- The records that the work of one row offers: those of its cards if it has reached E, else none (R15, R17). -/
def rowRecords (s : State) (row : Row) : List RetireRecord :=
  if s.exitOffset = some row.offset then retireRecords s (workedRow s row) else []

theorem recordsOffered_takeRow (s : State) (row : Row) : RecordsOffered (rowRecords s row) s (takeRow s row) := by
  have harrive := (rowWork_arriveRow (closeRow s row) s).2
  have hsame := recordsOffered_sameButPorts harrive
  unfold takeRow rowRecords
  simp only
  split
  · have hretire := recordsOffered_retireRow (workedRow s row) (arriveRow (closeRow s row) s).2
    have hrecords : retireRecords (arriveRow (closeRow s row) s).2 (workedRow s row) = retireRecords s (workedRow s row) := by
      obtain ⟨v, e, i, n, h⟩ := harrive
      rw [h]
      rfl
    rw [hrecords] at hretire
    exact hsame.trans hretire
  · exact ⟨hsame.trace, hsame.counted, hsame.bounded, hsame.fault⟩

/-- A record of a card that has retired from `rows`: of a row at E, after its work (R17, R130). -/
def RetiredRecord (s : State) (rows : List Row) (rec : RetireRecord) : Prop :=
  ∃ row ∈ leaving s rows, ∃ row', RowTaken s row row' ∧ ∃ c ∈ row'.cards,
    rec = retireRecord row' (s.recipe row'.recipe) s.timeTag c

theorem RowWork.length_cards {s : State} {row row' : Row} (h : RowWork s row row') :
    row'.cards.length = row.cards.length := by
  obtain ⟨f, rfl, -⟩ := h
  simp

/-- The row work offers a record for each card of each row at E (R15, R17). -/
theorem recordsOffered_foldl_takeRow (rows : List Row) (s : State) :
    ∃ records, RecordsOffered records s (rows.foldl takeRow s) ∧ records.length = cardsOnMap (leaving s rows)
      ∧ ∀ rec ∈ records, RetiredRecord s rows rec := by
  induction rows generalizing s with
  | nil => exact ⟨[], recordsOffered_nil rfl rfl fun _ hf => hf, rfl, by simp⟩
  | cons r rows ih =>
    obtain ⟨records, hoffered, hlength, hrecords⟩ := ih (takeRow s r)
    have hw := worked_takeRow s r
    have hleave : leaving (takeRow s r) rows = leaving s rows := by rw [leaving, leaving, hw.exitOffset_eq]
    refine ⟨rowRecords s r ++ records, (recordsOffered_takeRow s r).trans hoffered, ?_, fun rec hrec => ?_⟩
    · rw [List.length_append, hlength, hleave]
      by_cases hexit : s.exitOffset = some r.offset
      · simp [rowRecords, retireRecords, leaving, cardsOnMap, hexit, (rowWork_workedRow s r).length_cards]
      · simp [rowRecords, leaving, cardsOnMap, hexit]
    · obtain hrec | hrec := List.mem_append.mp hrec
      · by_cases hexit : s.exitOffset = some r.offset
        · rw [rowRecords, if_pos hexit] at hrec
          obtain ⟨c, hc, rfl⟩ := List.mem_map.mp hrec
          exact ⟨r, by simp [leaving, hexit], _, ⟨s, .refl s, rfl⟩, c, hc, rfl⟩
        · rw [rowRecords, if_neg hexit] at hrec
          cases hrec
      · obtain ⟨row, hrow, row', hwork, c, hc, rfl⟩ := hrecords rec hrec
        rw [hleave] at hrow
        refine ⟨row, ?_, row', hwork.of_worked hw, c, hc, by rw [hw.recipe_eq, hw.timeTag_eq]⟩
        exact List.mem_filter.mpr ⟨List.mem_cons_of_mem _ (List.mem_filter.mp hrow).1, (List.mem_filter.mp hrow).2⟩

theorem recordsOffered_advanceRows (s : State) :
    ∃ records, RecordsOffered records s (advanceRows s) ∧ records.length = cardsOnMap (leaving s (moveRows s.rows))
      ∧ ∀ rec ∈ records, RetiredRecord s (moveRows s.rows) rec := by
  obtain ⟨records, h, hlength, hrecords⟩ := recordsOffered_foldl_takeRow (moveRows s.rows) { s with rows := [] }
  refine ⟨records, ⟨h.trace, h.counted, h.bounded, h.fault⟩, hlength, fun rec hrec => ?_⟩
  obtain ⟨row, hrow, row', hwork, hc⟩ := hrecords rec hrec
  exact ⟨row, hrow, row', hwork.of_worked (worked_emptied s), hc⟩

/-! ### Use counts -/

theorem retireCards_useCounts (row : Row) (cards : List Card) (s : State) :
    (cards.foldl (retireCard row) s).useCounts = s.useCounts := by
  induction cards generalizing s with
  | nil => rfl
  | cons c cards ih => rw [List.foldl_cons, ih, retireCard, offerRecord_useCounts, reconcile_useCounts]

theorem useCount_congr {s t : State} (h : t.useCounts = s.useCounts) (id : RecipeId) : t.useCount id = s.useCount id := by
  rw [State.useCount, State.useCount, h]

/-- A retirement ends one use of the row's recipe (R17). -/
theorem useCount_retireRow (row : Row) (s : State) (id : RecipeId) :
    (retireRow row s).useCount id = s.useCount id - if row.recipe = id then 1 else 0 := by
  unfold retireRow
  simp only
  rw [State.useCount_setUseCount]
  by_cases h : id = row.recipe
  · rw [if_pos h, if_pos h.symm, h, useCount_congr (retireCards_useCounts row row.cards s)]
  · rw [if_neg h, if_neg (Ne.symm h), useCount_congr (retireCards_useCounts row row.cards s), Nat.sub_zero]

theorem useCount_takeRow (s : State) (row : Row) (id : RecipeId) :
    (takeRow s row).useCount id
      = s.useCount id - if s.exitOffset = some row.offset ∧ row.recipe = id then 1 else 0 := by
  have hsame : (arriveRow (closeRow s row) s).2.useCount id = s.useCount id := useCount_congr (by simp) id
  have hrecipe : (arriveRow (closeRow s row) s).1.recipe = row.recipe := (rowWork_workedRow s row).recipe_eq
  unfold takeRow
  simp only
  split
  · next h => rw [useCount_retireRow, hsame, hrecipe]; simp [h]
  · next h =>
    rw [if_neg fun k => h k.1, Nat.sub_zero]
    exact hsame

theorem useCount_foldl_takeRow (rows : List Row) (s : State) (id : RecipeId) :
    (rows.foldl takeRow s).useCount id = s.useCount id - ((leaving s rows).filter fun r => r.recipe = id).length := by
  induction rows generalizing s with
  | nil => simp [leaving]
  | cons r rows ih =>
    have hleave : leaving (takeRow s r) rows = leaving s rows := by
      rw [leaving, leaving, (worked_takeRow s r).exitOffset_eq]
    rw [List.foldl_cons, ih, hleave, useCount_takeRow, Nat.sub_sub]
    congr 1
    by_cases h : s.exitOffset = some r.offset <;> by_cases hid : r.recipe = id <;> simp [leaving, h, hid]
    omega

/-- The row work ends one use for each row that leaves (R17). -/
theorem useCount_advanceRows (s : State) (id : RecipeId) :
    (advanceRows s).useCount id
      = s.useCount id - ((leaving s (moveRows s.rows)).filter fun r => r.recipe = id).length :=
  useCount_foldl_takeRow _ { s with rows := [] } id

/-! ### Formation -/

/-- A formed row on the map, with what is counted of it, before its brief (R18). -/
def placedRow (id : RecipeId) (s : State) : State :=
  let row := formedRow s.indexCount id (s.recipe id) (s.lastIndex.getD s.timeTag)
  let s1 := { s with rows := s.rows ++ [row], cardsFormed := s.cardsFormed + BitVec.ofNat 32 row.cards.length }
  s1.setUseCount id (s1.useCount id + 1)

/-- Formation is the row placed, and beyond that what a brief does on a port (R18). -/
theorem formRow_eq (id : RecipeId) (s : State) :
    Worked (placedRow id s) (formRow id s) ∧ SameButPorts (placedRow id s) (formRow id s) := by
  unfold formRow
  simp only
  split
  · exact ⟨worked_offerBrief _ _ _, sameButPorts_offerBrief _ _ _⟩
  · exact ⟨.refl _, .refl _⟩

theorem useCount_placedRow (id j : RecipeId) (s : State) :
    (placedRow id s).useCount j = s.useCount j + if j = id then 1 else 0 := by
  unfold placedRow
  rw [State.useCount_setUseCount]
  split
  · next h => rw [h]; rfl
  · rfl

end Sys2Proof.Machine

/-! ## Invariants of the map and the tables that every step keeps -/

namespace Sys2Proof.Machine

/-! ### Settling an invariant by its effects -/

/-- The end of draining changes, beside the ports, at most the line state (R9). -/
theorem drainEnd_sameButPorts (before after : State) :
    SameButPorts after (drainEnd before after)
      ∨ after.rows = [] ∧ SameButPorts { after with line := .idle } (drainEnd before after) := by
  unfold drainEnd
  split
  · next h => exact .inr ⟨h.2, sameButPorts_raise _ _ _⟩
  · exact .inl (.refl _)

theorem loadBlock_cases {type : Octet} {body : List Octet} {s t : State} (h : loadBlock type body s = some t) :
    (∃ a q e, stationOf a = some e ∧ t = s.setStation q e)
      ∨ (∃ id a, recipeRefusal a = none ∧ t = s.setRecipe id (storedRecipe a))
      ∨ (∃ v, t = { s with arbiter := storedArbiter v })
      ∨ (∃ a b c, t = { s with interval := storedInterval a, notify := storedNotify b, holdLevel := storedHoldLevel c })
      ∨ ∃ o, t = { s with loadSelected := some o } := by
  unfold loadBlock at h
  split at h
  · unfold loadStation at h
    split at h
    · split at h <;> cases h
      next he =>
        obtain ⟨a, -, ha⟩ := Option.bind_eq_some_iff.mp he
        exact .inl ⟨a, _, _, ha, rfl⟩
    · cases h
  · unfold loadRecipe at h
    split at h
    · split at h
      · split at h <;> cases h
        next hgood => exact .inr (.inl ⟨_, _, hgood, rfl⟩)
      · cases h
    · cases h
  · obtain ⟨v, -, rfl⟩ := Option.map_eq_some_iff.mp h
    exact .inr (.inr (.inl ⟨_, rfl⟩))
  · unfold loadLevels at h
    split at h <;> cases h
    exact .inr (.inr (.inr (.inl ⟨_, _, _, rfl⟩)))
  · unfold loadSelection at h
    split at h <;> cases h
    exact .inr (.inr (.inr (.inr ⟨_, rfl⟩)))
  · cases h

/-! ### Tables and settings -/

theorem clampTo_bounds {low high : Nat} (h : low ≤ high) (n : Nat) : low ≤ clampTo low high n ∧ clampTo low high n ≤ high := by
  unfold clampTo
  omega

theorem stationInRange_of_stationOf {a : StationArg} {e : Station} (h : stationOf a = some e) : StationInRange e := by
  unfold stationOf at h
  split at h
  · split at h <;> cases h
    next hoffset => exact ⟨hoffset, clampTo_bounds (by decide) _⟩
  · cases h

theorem specInRange_storedCavity {a : CavityArg} (h : cavityArgOk a = true) : SpecInRange (storedCavity a) := by
  simp only [cavityArgOk, Bool.and_eq_true, decide_eq_true_iff] at h
  obtain ⟨⟨⟨⟨⟨h1, h2⟩, h3⟩, h4⟩, -⟩, -⟩ := h
  exact ⟨h1, h2, h3, h4, Nat.min_le_left _ _⟩

/-- A recipe that RECIPE_WRITE and a recipe block do not refuse is stored within its ranges (R48 to R50). -/
theorem recipeInRange_storedRecipe {a : RecipeArg} (h : recipeRefusal a = none) : RecipeInRange (storedRecipe a) := by
  unfold recipeRefusal at h
  split at h
  · cases h
  · next hcount =>
    split at h
    · cases h
    · next hlength =>
      split at h
      · cases h
      · next hvalues =>
        simp only [not_or, not_lt, Bool.not_eq_false] at hcount hlength hvalues
        obtain ⟨hmask0, hmask15, hdose, -, -, hcavities⟩ := hvalues
        refine ⟨fun hzero => hmask0 ?_, ?_, ?_, Nat.min_le_left _ _, Nat.min_le_left _ _, hdose, ?_, Nat.min_le_left _ _,
          fun c hc => ?_⟩
        · have := congrArg BitVec.toNat hzero
          simp only [storedRecipe, BitVec.toNat_setWidth] at this
          rw [Nat.mod_eq_of_lt (by omega)] at this
          exact this
        · simp only [Recipe.cavityCount, storedRecipe, List.length_map]
          omega
        · simp only [Recipe.cavityCount, storedRecipe, List.length_map]
          omega
        · have := a.dMax.isLt
          simp only [storedRecipe]
          omega
        · obtain ⟨x, hx, rfl⟩ := List.mem_map.mp hc
          exact specInRange_storedCavity (List.all_eq_true.mp hcavities x hx)

/-- The fields that `TablesInRange` reads. -/
theorem TablesInRange.congr {s t : State} (hs : TablesInRange s) (h1 : t.stations = s.stations)
    (h2 : t.recipes = s.recipes) (h3 : t.interval = s.interval) (h4 : t.notify = s.notify)
    (h5 : t.holdLevel = s.holdLevel) (h6 : t.sinceLast = s.sinceLast) : TablesInRange t := by
  unfold TablesInRange State.station State.recipe at *
  rwa [h1, h2, h3, h4, h5, h6]

theorem TablesInRange.setStation {s : State} (hs : TablesInRange s) (q : Port) {e : Station} (he : StationInRange e) :
    TablesInRange (s.setStation q e) := by
  obtain ⟨hst, hrest⟩ := hs
  refine ⟨fun p => ?_, hrest⟩
  rw [State.station_setStation]
  split
  · exact he
  · exact hst p

theorem TablesInRange.setRecipe {s : State} (hs : TablesInRange s) (id : RecipeId) {r : Recipe} (hr : RecipeInRange r) :
    TablesInRange (s.setRecipe id r) := by
  obtain ⟨hst, hre, hrest⟩ := hs
  refine ⟨hst, fun j => ?_, hrest⟩
  rw [State.recipe_setRecipe]
  split
  · exact hr
  · exact hre j

theorem stationInRange_default (p : Port) : StationInRange (defaultStations.get p) := by
  cases p <;> exact ⟨by decide, by decide, by decide⟩

theorem recipe_default (id : RecipeId) : defaultRecipes[id.val] = Recipe.default := by
  simp [defaultRecipes]

theorem recipeInRange_default : RecipeInRange Recipe.default := by
  refine ⟨by decide, by decide, by decide, by decide, by decide, by decide, by decide, by decide, fun c hc => ?_⟩
  obtain rfl := List.mem_singleton.mp hc
  exact ⟨by decide, by decide, by decide, by decide, by decide⟩

/-- The default tables and settings are within their ranges (R11, R27, R47, R134). -/
theorem tablesInRange_default {s : State} (h1 : s.stations = defaultStations) (h2 : s.recipes = defaultRecipes)
    (h3 : s.interval = defaultInterval) (h4 : s.notify = defaultNotify) (h5 : s.holdLevel = defaultHoldLevel)
    (h6 : ∀ t ∈ s.sinceLast, t ≤ Config.sinceLastStop) : TablesInRange s := by
  refine ⟨fun p => ?_, fun id => ?_, ?_, ?_, ?_, h6⟩
  · rw [State.station, h1]; exact stationInRange_default p
  · change RecipeInRange s.recipes[id.val]
    rw [h2, recipe_default]; exact recipeInRange_default
  · rw [h3]; decide
  · rw [h4]; decide
  · rw [h5]; decide

theorem TablesInRange.loadBlock {type : Octet} {body : List Octet} {s t : State} (hs : TablesInRange s)
    (h : loadBlock type body s = some t) : TablesInRange t := by
  obtain ⟨hst, hre, -, -, -, hsince⟩ := id hs
  obtain ⟨a, q, e, he, rfl⟩ | ⟨id, a, ha, rfl⟩ | ⟨v, rfl⟩ | ⟨a, b, c, rfl⟩ | ⟨o, rfl⟩ := loadBlock_cases h
  · exact hs.setStation q (stationInRange_of_stationOf he)
  · exact hs.setRecipe id (recipeInRange_storedRecipe ha)
  · exact hs
  · exact ⟨hst, hre, clampTo_bounds (by decide) _, clampTo_bounds (by decide) _, clampTo_bounds (by decide) _, hsince⟩
  · exact hs

theorem TablesInRange.worked {s t : State} (hs : TablesInRange s) (h : Worked s t) : TablesInRange t := by
  obtain ⟨⟨w, rfl⟩, -⟩ := h
  exact hs

theorem TablesInRange.sameButPorts {s t : State} (hs : TablesInRange s) (h : SameButPorts s t) : TablesInRange t := by
  obtain ⟨v, e, i, n, rfl⟩ := h
  exact hs

theorem tablesInRange_effect {c : Instr} {s t : State} (h : Effect s c t) (hs : TablesInRange s) : TablesInRange t := by
  obtain ⟨hst, hre, hint, hnot, hhold, hsince⟩ := id hs
  cases h with
  | masterReset => exact tablesInRange_default rfl rfl rfl rfl rfl (by simp [State.reset])
  | block octets type body s1 address loading good =>
    have h1 : TablesInRange s1 := hs.loadBlock good
    exact h1
  | loadStops => exact tablesInRange_default rfl rfl rfl rfl rfl hsince
  | accepted => exact ⟨hst, hre, hint, hnot, hhold, by simp⟩
  | advancedInDrain =>
    have hrows : TablesInRange (advanceRows (countIndex s)) := TablesInRange.worked (s := countIndex s) hs (worked_advanceRows _)
    obtain h | ⟨-, h⟩ := drainEnd_sameButPorts (countIndex s) (advanceRows (countIndex s))
    · exact hrows.sameButPorts h
    · exact TablesInRange.sameButPorts (s := { advanceRows (countIndex s) with line := .idle }) hrows h
  | advancedInRun id =>
    have hrows : TablesInRange (advanceRows (countIndex s)) := TablesInRange.worked (s := countIndex s) hs (worked_advanceRows _)
    exact TablesInRange.sameButPorts (s := placedRow id (advanceRows (countIndex s))) hrows (formRow_eq _ _).2
  | linkDown p => exact hs.setStation p (hst p)
  | tick =>
    refine ⟨hst, hre, hint, hnot, hhold, fun t ht => ?_⟩
    obtain ⟨x, -, rfl⟩ := Option.map_eq_some_iff.mp ht
    exact Nat.min_le_left _ _
  | stationModeSet _ _ _ _ q m => exact hs.setStation q (hst q)
  | stationWrite _ _ _ _ q e _ good => exact hs.setStation q (stationInRange_of_stationOf good)
  | recipeWrite _ _ _ _ id _ _ good => exact hs.setRecipe id (recipeInRange_storedRecipe good)
  | indexIntervalSet => exact ⟨hst, hre, clampTo_bounds (by decide) _, hnot, hhold, hsince⟩
  | traceLevelsSet =>
    exact ⟨hst, hre, hint, clampTo_bounds (by decide) _, clampTo_bounds (by decide) _, hsince⟩
  | _ => exact hs

/-- Settles O58: every effect keeps the ranges, by the clamps and refusals of what is stored. -/
theorem tablesStayInRange : Obligations.TablesStayInRange := fun _ _ hs h =>
  step_induction (P := TablesInRange) hs (fun _ _ h => h) (fun _ _ h hs => hs.sameButPorts h)
    (fun _ _ _ h hs => tablesInRange_effect h hs) h

end Sys2Proof.Machine

/-! ## Use counts and the recipes they keep -/

namespace Sys2Proof.Machine

/-! ### The recipes of the rows on the map -/

/-- The number of rows formed with a recipe. -/
def rowsFormedWith (id : RecipeId) (rows : List Row) : Nat := (rows.filter fun r => r.recipe = id).length

theorem rowsFormedWith_map (id : RecipeId) (rows : List Row) {f : Row → Row} (hf : ∀ r, (f r).recipe = r.recipe) :
    rowsFormedWith id (rows.map f) = rowsFormedWith id rows := by
  simp only [rowsFormedWith, ← List.countP_eq_length_filter, List.countP_map]
  congr 1
  funext r
  simp [hf]

theorem rowsFormedWith_moveRows (id : RecipeId) (rows : List Row) :
    rowsFormedWith id (moveRows rows) = rowsFormedWith id rows := rowsFormedWith_map id rows fun _ => rfl

theorem rowsFormedWith_updateCard (id : RecipeId) (number : Word) (l : Fin 4) (f : Card → Card) (rows : List Row) :
    rowsFormedWith id (updateCard number l f rows) = rowsFormedWith id rows :=
  rowsFormedWith_map id rows fun r => by split <;> rfl

theorem rowsFormedWith_rowWork {s : State} {id : RecipeId} {rows rows' : List Row}
    (h : List.Forall₂ (RowWork s) rows rows') : rowsFormedWith id rows' = rowsFormedWith id rows := by
  induction h with
  | nil => rfl
  | cons hr _ ih =>
    simp only [rowsFormedWith, List.filter_cons, hr.recipe_eq] at ih ⊢
    split <;> simp [ih]

/-- The rows that leave and the rows that stay are all the rows. -/
theorem rowsFormedWith_staying (s : State) (id : RecipeId) (rows : List Row) :
    rowsFormedWith id (staying s rows) = rowsFormedWith id rows - rowsFormedWith id (leaving s rows) := by
  induction rows with
  | nil => rfl
  | cons r rows ih =>
    have hle : rowsFormedWith id (leaving s rows) ≤ rowsFormedWith id rows :=
      (List.filter_sublist.filter _).length_le
    by_cases hexit : s.exitOffset = some r.offset <;> by_cases hid : r.recipe = id <;>
      simp only [rowsFormedWith, staying, leaving, List.filter_cons, hexit, hid, ne_eq, not_true_eq_false, not_false_eq_true,
        decide_true, decide_false, ite_true, ite_false, Bool.false_eq_true, List.length_cons] at ih hle ⊢ <;> omega

/-! ### The use counts -/

theorem useCount_cleared {s : State} (h : s.useCounts = Vector.replicate 16 0) (id : RecipeId) : s.useCount id = 0 := by
  rw [State.useCount, h]
  exact Vector.getElem_replicate id.isLt

theorem useCountsMatch_advanceRows {s : State} (hs : UseCountsMatch s) : UseCountsMatch (advanceRows s) := fun id =>
  calc (advanceRows s).useCount id
      = s.useCount id - rowsFormedWith id (leaving s (moveRows s.rows)) := useCount_advanceRows s id
    _ = rowsFormedWith id (moveRows s.rows) - rowsFormedWith id (leaving s (moveRows s.rows)) := by
      rw [rowsFormedWith_moveRows, hs id]; rfl
    _ = rowsFormedWith id (advanceRows s).rows := by
      rw [rowsFormedWith_rowWork (advanceRows_rows s), rowsFormedWith_staying]

theorem useCountsMatch_placedRow {s : State} (hs : UseCountsMatch s) (id : RecipeId) : UseCountsMatch (placedRow id s) := by
  intro j
  have hrow : (formedRow s.indexCount id (s.recipe id) (s.lastIndex.getD s.timeTag)).recipe = id := rfl
  rw [useCount_placedRow, hs j]
  change _ = ((s.rows ++ [_]).filter _).length
  rw [List.filter_append, List.length_append, List.filter_singleton, hrow]
  by_cases hid : id = j
  · simp [hid]
  · simp [hid, Ne.symm hid]

theorem UseCountsMatch.sameButPorts {s t : State} (hs : UseCountsMatch s) (h : SameButPorts s t) : UseCountsMatch t := by
  obtain ⟨v, e, i, n, rfl⟩ := h
  exact hs

theorem useCountsMatch_effect {c : Instr} {s t : State} (h : Effect s c t) (hs : UseCountsMatch s) : UseCountsMatch t := by
  cases h with
  | masterReset | purge => exact fun id => useCount_cleared rfl id
  | block octets type body s1 address loading good =>
    obtain ⟨a, q, e, -, rfl⟩ | ⟨id, a, -, rfl⟩ | ⟨v, rfl⟩ | ⟨a, b, c, rfl⟩ | ⟨o, rfl⟩ := loadBlock_cases good <;> exact hs
  | advancedInDrain =>
    have hrows : UseCountsMatch (advanceRows (countIndex s)) := useCountsMatch_advanceRows (s := countIndex s) hs
    obtain h | ⟨-, h⟩ := drainEnd_sameButPorts (countIndex s) (advanceRows (countIndex s))
    · exact hrows.sameButPorts h
    · exact UseCountsMatch.sameButPorts (s := { advanceRows (countIndex s) with line := .idle }) hrows h
  | advancedInRun id =>
    exact (useCountsMatch_placedRow (useCountsMatch_advanceRows (s := countIndex s) hs) id).sameButPorts (formRow_eq _ _).2
  | report => exact fun id => (hs id).trans (rowsFormedWith_updateCard id _ _ _ _).symm
  | condemn => exact fun id => (hs id).trans (rowsFormedWith_map id s.rows fun r => by split <;> rfl).symm
  | _ => exact hs

/-- Settles O53: formation counts a use, retirement ends one, and nothing else changes a row's recipe. -/
theorem useCountsStayMatched : Obligations.UseCountsStayMatched := fun _ _ hs h =>
  step_induction (P := UseCountsMatch) hs (fun _ _ h => h) (fun _ _ h hs => hs.sameButPorts h)
    (fun _ _ _ h hs => useCountsMatch_effect h hs) h

/-! ### Recipes in use -/

/-- Advances only end uses, so a recipe in use after the row work was in use before. -/
theorem useCount_of_advanceRows {s : State} {id : RecipeId} (h : (advanceRows s).useCount id ≠ 0) : s.useCount id ≠ 0 := by
  rw [useCount_advanceRows] at h
  omega

theorem RecipesSound.sameButPorts {s t : State} (hs : RecipesSound s) (h : SameButPorts s t) : RecipesSound t := by
  obtain ⟨v, e, i, n, rfl⟩ := h
  exact hs

/-- A state in which no recipe is in use and the line is IDLE is sound. -/
theorem recipesSound_of_unused {s : State} (hline : s.line = .idle) (hunused : ∀ id, s.useCount id = 0) : RecipesSound s :=
  ⟨fun _ => ⟨hline, hunused⟩, fun id h => absurd (hunused id) h, fun h => by rw [hline] at h; cases h⟩

/-- Out of reset and READY, a sound state needs valid recipes alone. -/
theorem recipesSound_of_ready {s : State} (hheld : ¬ (s.resetHeld = true ∨ s.load = .loading))
    (hused : ∀ id, s.useCount id ≠ 0 → (s.recipe id).valid = true)
    (hrun : s.line = .run → ∃ id, s.selected = some id ∧ (s.recipe id).valid = true) : RecipesSound s :=
  ⟨fun h => absurd h hheld, hused, hrun⟩

theorem RecipesSound.active {s : State} (hs : RecipesSound s) (h : s.line ≠ .idle) :
    ¬ (s.resetHeld = true ∨ s.load = .loading) := fun hheld => h (hs.1 hheld).1

/-- The row work keeps the tables and only ends uses. -/
theorem recipesSound_advanceRows {s : State} (hs : RecipesSound s) : RecipesSound (advanceRows s) := by
  have hw := worked_advanceRows s
  refine ⟨fun h => ?_, fun id h => ?_, fun h => ?_⟩
  · rw [hw.resetHeld_eq, hw.load_eq] at h
    obtain ⟨hline, hunused⟩ := hs.1 h
    exact ⟨hw.line_eq.trans hline, fun id => by rw [useCount_advanceRows, hunused, Nat.zero_sub]⟩
  · rw [hw.recipe_eq]
    exact hs.2.1 id (useCount_of_advanceRows h)
  · rw [hw.line_eq] at h
    obtain ⟨id, hid, hvalid⟩ := hs.2.2 h
    exact ⟨id, hw.selected_eq.trans hid, by rwa [hw.recipe_eq]⟩

theorem startCheck8_valid {s : State} (h : startCheck8 s = true) :
    ∃ id, s.selected = some id ∧ (s.recipe id).valid = true := by
  unfold startCheck8 at h
  split at h
  · next id hid =>
    simp only [Bool.and_eq_true] at h
    obtain ⟨⟨hvalid, -⟩, -⟩ := h
    exact ⟨id, hid, hvalid⟩
  · cases h

theorem recipesSound_effect {c : Instr} {s t : State} (h : Effect s c t) (hs : RecipesSound s) : RecipesSound t := by
  obtain ⟨hheld, hused, hrun⟩ := id hs
  cases h with
  | masterReset => exact recipesSound_of_unused rfl fun id => useCount_cleared rfl id
  | purge => exact recipesSound_of_unused rfl fun id => useCount_cleared rfl id
  | resetRelease held => exact recipesSound_of_unused (hheld (.inl held)).1 (hheld (.inl held)).2
  | signature _ loading | signatureEnds _ loading | loadEnds _ loading | loadSelects _ _ loading | loadStops _ loading =>
    exact recipesSound_of_unused (hheld (.inr loading)).1 (hheld (.inr loading)).2
  | block octets type body s1 address loading good =>
    obtain ⟨hidle, hunused⟩ := hheld (.inr loading)
    obtain ⟨a, q, e, -, rfl⟩ | ⟨id, a, -, rfl⟩ | ⟨v, rfl⟩ | ⟨a, b, c, rfl⟩ | ⟨o, rfl⟩ := loadBlock_cases good <;>
      exact recipesSound_of_unused hidle hunused
  | advancedInDrain drain =>
    have hrows : RecipesSound (advanceRows (countIndex s)) := recipesSound_advanceRows (s := countIndex s) hs
    obtain h | ⟨-, h⟩ := drainEnd_sameButPorts (countIndex s) (advanceRows (countIndex s))
    · exact hrows.sameButPorts h
    · refine RecipesSound.sameButPorts (s := { advanceRows (countIndex s) with line := .idle }) ?_ h
      have hline : (advanceRows (countIndex s)).line ≠ .idle := by
        rw [(worked_advanceRows _).line_eq]
        exact fun h => by rw [show s.line = .idle from h] at drain; cases drain
      exact recipesSound_of_ready (hrows.active hline) hrows.2.1 fun h => by cases h
  | advancedInRun id run selected =>
    have hrows : RecipesSound (advanceRows (countIndex s)) := recipesSound_advanceRows (s := countIndex s) hs
    have hw : Worked (countIndex s) (advanceRows (countIndex s)) := worked_advanceRows _
    have hline : (advanceRows (countIndex s)).line ≠ .idle := by
      rw [hw.line_eq]
      exact fun h => by rw [show s.line = .idle from h] at run; cases run
    have hvalid : ((advanceRows (countIndex s)).recipe id).valid = true := by
      obtain ⟨j, hj, hvalid⟩ := hrun run
      rw [selected, Option.some.injEq] at hj
      rw [hw.recipe_eq]
      exact hj ▸ hvalid
    refine RecipesSound.sameButPorts (s := placedRow id (advanceRows (countIndex s))) ?_ (formRow_eq _ _).2
    refine recipesSound_of_ready (hrows.active hline) (fun j h => ?_) hrows.2.2
    rw [useCount_placedRow] at h
    by_cases hj : j = id
    · exact hj ▸ hvalid
    · exact hrows.2.1 j (by simpa [hj] using h)
  | start p tag held ready stopped pass =>
    exact recipesSound_of_ready (by simp [held, ready]) hused fun _ =>
      startCheck8_valid (s := s) (pass _ (by simp [startChecks]))
  | stopForming p tag run =>
    have hactive := hs.active (by rw [run]; simp)
    exact recipesSound_of_ready hactive hused fun h => by
      change (if s.rows = [] then LineState.idle else .drain) = .run at h
      split at h <;> cases h
  | selectRecipe p tag o id valid => exact ⟨hheld, hused, fun _ => ⟨id, rfl, valid⟩⟩
  | recipeWrite p tag o recipe id unused free good =>
    refine ⟨hheld, fun j hj => ?_, fun h => ?_⟩
    · rw [State.recipe_setRecipe]
      split
      · next e =>
        subst e
        exact absurd unused hj
      · exact hused j hj
    · obtain ⟨j, hj, hvalid⟩ := hrun h
      refine ⟨j, hj, ?_⟩
      rw [State.recipe_setRecipe, if_neg fun e : j = id => free ⟨e ▸ hj, h⟩]
      exact hvalid
  | _ => exact hs

/-! ### No step stops -/

theorem serve_completes (r : Request) (app : State → State × Answer) (s : State) : ∃ t, serve r app s = .next t := by
  obtain ⟨-, h⟩ | ⟨-, -, h⟩ | ⟨-, -, h⟩ := serve_eq r app s <;> exact ⟨_, h⟩

theorem unlessHeld_completes (f : State → State) (s : State) : ∃ t, unlessHeld f s = .next t := by
  unfold unlessHeld
  split <;> exact ⟨_, rfl⟩

/-- ADVANCE completes unless a row is to be formed with no recipe selected. -/
theorem execAdvance_completes {s : State} (h : s.line = .run → s.selected ≠ none) : ∃ t, execAdvance s = .next t := by
  unfold execAdvance
  split
  · exact ⟨_, rfl⟩
  · simp only
    split
    · exact ⟨_, rfl⟩
    · exact ⟨_, rfl⟩
    · next hrun =>
      split
      · next hnone => exact absurd hnone (h hrun)
      · exact ⟨_, rfl⟩

theorem exec_completes {s : State} (h : s.line = .run → s.selected ≠ none) (c : Instr) : ∃ t, exec c s = .next t := by
  cases c
  case masterReset => exact ⟨_, rfl⟩
  case resetRelease =>
    change ∃ t, execResetRelease s = .next t
    unfold execResetRelease
    split <;> exact ⟨_, rfl⟩
  case advance => exact execAdvance_completes h
  case autoloadSignatureRead | autoloadBlockRead | autoloadTerminator | indexPulse | frameReceive | linkDown
      | frameSendStart | frameSendComplete | arbiterGrant | timeTagTick | idleFillReceive =>
    simp only [exec, execAutoloadSignatureRead, execAutoloadBlockRead, execAutoloadTerminator, execIndexPulse,
      execFrameReceive, execLinkDown, execFrameSendStart, execFrameSendComplete, execArbiterGrant, execTimeTagTick,
      execIdleFillReceive, unlessHeld_completes]
  all_goals exact serve_completes _ _ _

/-- Settles O57: the only command that can stop is ADVANCE in RUN with no recipe selected, which soundness rules out. -/
theorem recipesStaySoundAndStepsComplete : Obligations.RecipesStaySoundAndStepsComplete := by
  intro s hs
  have hselected : s.line = .run → s.selected ≠ none := fun h => by
    obtain ⟨id, hid, -⟩ := hs.2.2 h
    simp [hid]
  have hstep : ∃ t, step s = .next t := by
    unfold step
    split
    · exact ⟨_, rfl⟩
    · next c rest _ => exact exec_completes (s := { s with pending := rest }) hselected c
  obtain ⟨t, ht⟩ := hstep
  exact ⟨t, ht, step_induction (P := RecipesSound) hs (fun _ _ h => h) (fun _ _ h hs => hs.sameButPorts h)
    (fun _ _ _ h hs => recipesSound_effect h hs) ht⟩

end Sys2Proof.Machine

/-! ## The conservation of cards and the soundness of the map -/

namespace Sys2Proof.Machine

/-! ### The cards on the map -/

theorem cardsOnMap_append (rows rows' : List Row) : cardsOnMap (rows ++ rows') = cardsOnMap rows + cardsOnMap rows' := by
  simp [cardsOnMap]

theorem cardsOnMap_map (rows : List Row) {f : Row → Row} (hf : ∀ r, (f r).cards.length = r.cards.length) :
    cardsOnMap (rows.map f) = cardsOnMap rows := by
  simp only [cardsOnMap, List.map_map]
  congr 2
  funext r
  exact hf r

theorem cardsOnMap_rowWork {s : State} {rows rows' : List Row} (h : List.Forall₂ (RowWork s) rows rows') :
    cardsOnMap rows' = cardsOnMap rows := by
  induction h with
  | nil => rfl
  | cons hr _ ih =>
    simp only [cardsOnMap, List.map_cons, List.sum_cons, hr.length_cards] at ih ⊢
    omega

theorem cardsOnMap_staying (s : State) (rows : List Row) :
    cardsOnMap (staying s rows) + cardsOnMap (leaving s rows) = cardsOnMap rows := by
  induction rows with
  | nil => rfl
  | cons r rows ih =>
    by_cases hexit : s.exitOffset = some r.offset <;>
      simp only [cardsOnMap, staying, leaving, List.filter_cons, hexit, ne_eq, not_true_eq_false, not_false_eq_true,
        decide_true, decide_false, ite_true, ite_false, Bool.false_eq_true, List.map_cons, List.sum_cons] at ih ⊢ <;> omega

theorem updateCard_length_cards (number : Word) (l : Fin 4) (f : Card → Card) (rows : List Row) :
    cardsOnMap (updateCard number l f rows) = cardsOnMap rows :=
  cardsOnMap_map rows fun r => by split <;> simp

/-! ### The conservation of cards -/

theorem Worked.counts_eq {s t : State} (h : Worked s t) :
    t.cardsFormed = s.cardsFormed ∧ t.cardsPurged = s.cardsPurged ∧ t.cardsRead = s.cardsRead := by
  obtain ⟨⟨w, rfl⟩, -⟩ := h
  exact ⟨rfl, rfl, rfl⟩

theorem CardsConserved.sameButPorts {s t : State} (hs : CardsConserved s) (h : SameButPorts s t) : CardsConserved t := by
  obtain ⟨v, e, i, n, rfl⟩ := h
  exact hs

/-- A card that leaves at E is in the trace queue or counted in CARDS_DROPPED (R132, R133). -/
theorem cardsConserved_advanceRows {s : State} (hs : CardsConserved s) : CardsConserved (advanceRows s) := by
  obtain ⟨records, hrecords, hlength, -⟩ := recordsOffered_advanceRows s
  obtain ⟨hformed, hpurged, hread⟩ := (worked_advanceRows s).counts_eq
  have hcounted := hrecords.counted
  have hmap : cardsOnMap (advanceRows s).rows + records.length = cardsOnMap s.rows := by
    rw [cardsOnMap_rowWork (advanceRows_rows s), hlength, cardsOnMap_staying]
    exact cardsOnMap_map _ fun _ => rfl
  unfold CardsConserved at hs ⊢
  rw [hformed, hpurged, hread]
  rw [← hmap] at hs
  generalize cardsOnMap (advanceRows s).rows = m at hs ⊢
  rw [BitVec.ofNat_add] at hcounted hs ⊢
  rw [BitVec.ofNat_add] at hs
  linear_combination hs - hcounted

theorem cardsConserved_placedRow {s : State} (hs : CardsConserved s) (id : RecipeId) : CardsConserved (placedRow id s) := by
  unfold CardsConserved at hs ⊢
  change s.cardsFormed + BitVec.ofNat 32 _ - s.cardsPurged - s.cardsDropped - s.cardsRead
    = BitVec.ofNat 32 (cardsOnMap (s.rows ++ [_]) + s.trace.length)
  rw [cardsOnMap_append]
  generalize hrow : formedRow s.indexCount id (s.recipe id) (s.lastIndex.getD s.timeTag) = row
  have hone : cardsOnMap [row] = row.cards.length := by simp [cardsOnMap]
  simp only [hone, BitVec.ofNat_add] at hs ⊢
  linear_combination hs

theorem cardsConserved_effect {c : Instr} {s t : State} (h : Effect s c t) (hs : CardsConserved s) : CardsConserved t := by
  cases h with
  | masterReset => exact (by decide : (0 : Word) - 0 - 0 - 0 = BitVec.ofNat 32 0)
  | purge =>
    unfold CardsConserved at hs ⊢
    change s.cardsFormed - (s.cardsPurged + BitVec.ofNat 32 (cardsOnMap s.rows)) - s.cardsDropped - s.cardsRead
      = BitVec.ofNat 32 (0 + s.trace.length)
    rw [BitVec.ofNat_add] at hs
    rw [Nat.zero_add]
    linear_combination hs
  | block octets type body s1 address loading good =>
    obtain ⟨a, q, e, -, rfl⟩ | ⟨id, a, -, rfl⟩ | ⟨v, rfl⟩ | ⟨a, b, c, rfl⟩ | ⟨o, rfl⟩ := loadBlock_cases good <;> exact hs
  | advancedInDrain =>
    have hrows : CardsConserved (advanceRows (countIndex s)) := cardsConserved_advanceRows (s := countIndex s) hs
    obtain h | ⟨-, h⟩ := drainEnd_sameButPorts (countIndex s) (advanceRows (countIndex s))
    · exact hrows.sameButPorts h
    · exact CardsConserved.sameButPorts (s := { advanceRows (countIndex s) with line := .idle }) hrows h
  | advancedInRun id =>
    exact (cardsConserved_placedRow (cardsConserved_advanceRows (s := countIndex s) hs) id).sameButPorts (formRow_eq _ _).2
  | report =>
    unfold CardsConserved at hs ⊢
    dsimp only
    rw [updateCard_length_cards]
    exact hs
  | condemn =>
    unfold CardsConserved at hs ⊢
    dsimp only
    rw [cardsOnMap_map _ fun r => by split <;> simp [condemnRow]]
    exact hs
  | retireRead p tag n =>
    unfold CardsConserved at hs ⊢
    dsimp only
    have hlength : (s.trace.drop n.toNat).length + (s.trace.take n.toNat).length = s.trace.length := by
      rw [Nat.add_comm, ← List.length_append, List.take_append_drop]
    rw [← hlength] at hs
    simp only [BitVec.ofNat_add] at hs ⊢
    linear_combination hs
  | _ => exact hs

/-- Settles O52: every card formed is on the map, in the trace queue, or in one of three counts. -/
theorem cardsStayConserved : Obligations.CardsStayConserved := fun _ _ hs h =>
  step_induction (P := CardsConserved) hs (fun _ _ h => h) (fun _ _ h hs => hs.sameButPorts h)
    (fun _ _ _ h hs => cardsConserved_effect h hs) h

/-! ### The station table but for its modes -/

/-- The station tables agree but for the modes. -/
def SamePlan (s t : State) : Prop := ∀ p, sameButMode (s.station p) (t.station p)

theorem SamePlan.fields {s t : State} (h : SamePlan s t) (p : Port) :
    (t.station p).role = (s.station p).role ∧ (t.station p).offset = (s.station p).offset ∧
      (t.station p).window = (s.station p).window ∧ (t.station p).required = (s.station p).required := by
  have := h p
  rw [sameButMode] at this
  rw [← this]
  exact ⟨rfl, rfl, rfl, rfl⟩

theorem SamePlan.role_eq {s t : State} (h : SamePlan s t) (p : Port) : (t.station p).role = (s.station p).role :=
  (h.fields p).1

theorem SamePlan.offset_eq {s t : State} (h : SamePlan s t) (p : Port) : (t.station p).offset = (s.station p).offset :=
  (h.fields p).2.1

theorem SamePlan.window_eq {s t : State} (h : SamePlan s t) (p : Port) : (t.station p).window = (s.station p).window :=
  (h.fields p).2.2.1

theorem samePlan_of_eq {s t : State} (h : t.stations = s.stations) : SamePlan s t := fun p => by
  rw [State.station, State.station, h]
  rfl

theorem SamePlan.trans {s t u : State} (h : SamePlan s t) (k : SamePlan t u) : SamePlan s u := fun p => by
  have hp := h p
  have kp := k p
  unfold sameButMode at *
  rw [← kp, ← hp]

/-- A mode alone written leaves the plan of the line. -/
theorem samePlan_setMode (s : State) (q : Port) (m : Mode) :
    SamePlan s (s.setStation q { s.station q with mode := m }) := fun p => by
  rw [State.station_setStation]
  split
  · next h => rw [h]; rfl
  · rfl

theorem SamePlan.portsWith_eq {s t : State} (h : SamePlan s t) (role : Role) : t.portsWith role = s.portsWith role := by
  simp only [State.portsWith, h.role_eq]

theorem SamePlan.closeOffset_eq {s t : State} (h : SamePlan s t) (p : Port) : t.closeOffset p = s.closeOffset p := by
  simp only [State.closeOffset, h.offset_eq, h.window_eq]

theorem SamePlan.startExit_eq {s t : State} (h : SamePlan s t) : startExit t = startExit s := by
  rw [startExit, startExit, h.portsWith_eq, show t.closeOffset = s.closeOffset from funext h.closeOffset_eq]

/-! ### Soundness of the map -/

theorem mapSound_of_idle {s : State} (hline : s.line = .idle) (hrows : s.rows = []) : MapSound s := by
  refine ⟨fun _ => hline, fun _ => hrows, fun h => ?_, fun h => absurd hline h, ?_, ?_⟩
  · rw [hline] at h; cases h
  · rw [hrows]; exact .nil
  · rw [hrows]; simp

/-- The rows' offsets below E, strictly falling, and their numbers beside the index count: what `MapSound` says of the
rows of a line that is not IDLE. -/
structure RowsSound (s : State) : Prop where
  below : ∃ e, s.exitOffset = some e ∧ 1 ≤ e ∧ e ≤ 63 ∧ ∀ r ∈ s.rows, r.offset < e
  falling : s.rows.Pairwise (fun a b => b.offset < a.offset)
  numbered : ∀ r ∈ s.rows, r.number + BitVec.ofNat 32 r.offset = s.indexCount

theorem MapSound.rowsSound {s : State} (hs : MapSound s) (h : s.line ≠ .idle) : RowsSound s := by
  obtain ⟨-, -, -, hexit, hfalling, hnumbered⟩ := hs
  exact ⟨(hexit h).2, hfalling, hnumbered⟩

theorem MapSound.active {s : State} (hs : MapSound s) (h : s.line ≠ .idle) :
    ¬ (s.resetHeld = true ∨ s.load = .loading) := fun hheld => h (hs.1 hheld)

theorem RowsSound.mapSound {s : State} (hs : RowsSound s) (hactive : ¬ (s.resetHeld = true ∨ s.load = .loading))
    (hline : s.line ≠ .idle) (hdrain : s.line = .drain → s.rows ≠ []) (hexit : s.exitOffset = startExit s) : MapSound s :=
  ⟨fun h => absurd h hactive, fun h => absurd h hline, hdrain, fun _ => ⟨hexit, hs.below⟩, hs.falling, hs.numbered⟩

/-- The soundness of the map reads of the rows only their keys. -/
theorem MapSound.of_rowKeys {s t : State} (hs : MapSound s) (hkeys : t.rows.map rowKey = s.rows.map rowKey)
    (hline : t.line = s.line) (hheld : t.resetHeld = s.resetHeld) (hload : t.load = s.load)
    (hexit : t.exitOffset = s.exitOffset) (hindex : t.indexCount = s.indexCount) (hplan : SamePlan s t) : MapSound t := by
  obtain ⟨h1, h2, h3, h4, h5, h6⟩ := hs
  have hempty : t.rows = [] ↔ s.rows = [] := by
    rw [← List.map_eq_nil_iff (f := rowKey), hkeys, List.map_eq_nil_iff]
  have hmem : ∀ r ∈ t.rows, ∃ r' ∈ s.rows, rowKey r' = rowKey r := fun r hr => by
    have := List.mem_map_of_mem (f := rowKey) hr
    rw [hkeys] at this
    exact List.mem_map.mp this
  have hfalling : (s.rows.map rowKey).Pairwise (fun a b => b.2.1 < a.2.1) := List.pairwise_map.mpr h5
  refine ⟨fun h => ?_, fun h => ?_, fun h => ?_, fun h => ?_, ?_, fun r hr => ?_⟩
  · rw [hheld, hload] at h
    exact hline.trans (h1 h)
  · exact hempty.mpr (h2 (hline ▸ h))
  · exact fun hrows => h3 (hline ▸ h) (hempty.mp hrows)
  · rw [hline] at h
    obtain ⟨hstart, e, he, hlow, hhigh, hbelow⟩ := h4 h
    refine ⟨by rw [hexit, hstart, hplan.startExit_eq], e, hexit.trans he, hlow, hhigh, fun r hr => ?_⟩
    obtain ⟨r', hr', hkey⟩ := hmem r hr
    have : r'.offset = r.offset := congrArg (·.2.1) hkey
    exact this ▸ hbelow r' hr'
  · rw [← hkeys] at hfalling
    exact List.pairwise_map.mp hfalling
  · obtain ⟨r', hr', hkey⟩ := hmem r hr
    have ho : r'.offset = r.offset := congrArg (·.2.1) hkey
    have hn : r'.number = r.number := congrArg (·.1) hkey
    rw [hindex, ← h6 r' hr', ho, hn]

theorem MapSound.sameButPorts {s t : State} (hs : MapSound s) (h : SameButPorts s t) : MapSound t := by
  obtain ⟨v, e, i, n, rfl⟩ := h
  exact hs

theorem rowKey_updateCard (number : Word) (l : Fin 4) (f : Card → Card) (rows : List Row) :
    (updateCard number l f rows).map rowKey = rows.map rowKey := by
  rw [updateCard, List.map_map]
  congr 1
  funext r
  simp only [Function.comp_apply]
  split <;> rfl

theorem rowKey_condemned (first : Word) (count mask : Octet) (rows : List Row) :
    (rows.map fun r => if inRowRange first count.toNat r.number then condemnRow mask r else r).map rowKey
      = rows.map rowKey := by
  rw [List.map_map]
  congr 1
  funext r
  simp only [Function.comp_apply]
  split <;> rfl

theorem rowKey_rowWork {s : State} {rows rows' : List Row} (h : List.Forall₂ (RowWork s) rows rows') :
    rows'.map rowKey = rows.map rowKey := by
  induction h with
  | nil => rfl
  | cons hr _ ih => rw [List.map_cons, List.map_cons, hr.rowKey_eq, ih]

/-! ### The advance on a sound map -/

/-- After the row work of an advance every row stands one pitch further, at least 1 and below E (R15). -/
theorem rowsSound_advanceRows {s : State} (hs : RowsSound s) :
    RowsSound (advanceRows (countIndex s)) ∧ ∀ r ∈ (advanceRows (countIndex s)).rows, 0 < r.offset := by
  obtain ⟨e, he, hlow, hhigh, hbelow⟩ := hs.below
  have hw : Worked (countIndex s) (advanceRows (countIndex s)) := worked_advanceRows _
  have hfrom {r : Row} (hr : r ∈ (advanceRows (countIndex s)).rows) :
      ∃ row ∈ s.rows, s.exitOffset ≠ some (row.offset + 1) ∧ rowKey r = rowKey (moved row) := by
    obtain ⟨row, hrow, hexit, hwork⟩ := mem_advanceRows hr
    exact ⟨row, hrow, hexit, hwork.rowKey_eq⟩
  refine ⟨⟨⟨e, hw.exitOffset_eq.trans he, hlow, hhigh, fun r hr => ?_⟩, ?_, fun r hr => ?_⟩, fun r hr => ?_⟩
  · obtain ⟨row, hrow, hexit, hkey⟩ := hfrom hr
    have ho : r.offset = row.offset + 1 := congrArg (·.2.1) hkey
    have := hbelow row hrow
    rw [he, ne_eq, Option.some.injEq] at hexit
    omega
  · have hmoved : (moveRows s.rows).Pairwise (fun a b => b.offset < a.offset) :=
      List.pairwise_map.mpr (hs.falling.imp fun h => Nat.add_lt_add_right h 1)
    have hkeys : ((staying (countIndex s) (moveRows (countIndex s).rows)).map rowKey).Pairwise (fun a b => b.2.1 < a.2.1) :=
      List.pairwise_map.mpr (hmoved.sublist List.filter_sublist)
    rw [← rowKey_rowWork (advanceRows_rows (countIndex s))] at hkeys
    exact List.pairwise_map.mp hkeys
  · obtain ⟨row, hrow, -, hkey⟩ := hfrom hr
    have ho : r.offset = row.offset + 1 := congrArg (·.2.1) hkey
    have hn : r.number = row.number := congrArg (·.1) hkey
    rw [hw.indexCount_eq, ho, hn, BitVec.ofNat_add]
    change _ = s.indexCount + 1
    rw [← hs.numbered row hrow]
    exact (BitVec.add_assoc _ _ _).symm
  · obtain ⟨row, -, -, hkey⟩ := hfrom hr
    have ho : r.offset = row.offset + 1 := congrArg (·.2.1) hkey
    omega

/-- The row formed stands at offset 0 behind all others (R18). -/
theorem rowsSound_placedRow {s : State} (hs : RowsSound s) (hpast : ∀ r ∈ s.rows, 0 < r.offset) (id : RecipeId) :
    RowsSound (placedRow id s) := by
  obtain ⟨e, he, hlow, hhigh, hbelow⟩ := hs.below
  have hrows : ∀ r ∈ (placedRow id s).rows, r ∈ s.rows ∨ r.offset = 0 ∧ r.number = s.indexCount := fun r hr => by
    obtain hr | hr := List.mem_append.mp hr
    · exact .inl hr
    · rw [List.mem_singleton.mp hr]
      exact .inr ⟨rfl, rfl⟩
  refine ⟨⟨e, he, hlow, hhigh, fun r hr => ?_⟩, ?_, fun r hr => ?_⟩
  · obtain hr | ⟨ho, -⟩ := hrows r hr
    · exact hbelow r hr
    · omega
  · refine List.pairwise_append.mpr ⟨hs.falling, List.pairwise_singleton .., fun a ha b hb => ?_⟩
    rw [List.mem_singleton.mp hb]
    exact hpast a ha
  · obtain hr | ⟨ho, hn⟩ := hrows r hr
    · exact hs.numbered r hr
    · rw [ho, hn]
      exact BitVec.add_zero _

/-! ### START on a sound map -/

theorem mem_portsWith {s : State} {p : Port} {role : Role} : p ∈ s.portsWith role ↔ (s.station p).role = role := by
  simp only [State.portsWith, List.mem_filter, decide_eq_true_iff, and_iff_right_iff_imp]
  exact fun _ => by cases p <;> simp [Port.all]

theorem mem_linePorts {s : State} {p : Port} : p ∈ linePorts s ↔ (s.station p).role.onLine = true := by
  simp only [linePorts, List.mem_filter, and_iff_right_iff_imp]
  exact fun _ => by cases p <;> simp [Port.all]

/-- Check 4: the stations on the line stand at offsets of their own (R4). -/
theorem eq_of_offset_eq {s : State} (h : startCheck4 s = true) {p q : Port} (hp : (s.station p).role.onLine = true)
    (hq : (s.station q).role.onLine = true) (ho : (s.station p).offset = (s.station q).offset) : p = q :=
  List.inj_on_of_nodup_map (of_decide_eq_true h) (mem_linePorts.mpr hp) (mem_linePorts.mpr hq) ho

/-- Check 1: the FORM station (R4). -/
theorem startCheck1_iff {s : State} :
    startCheck1 s = true ↔ ∃ p, s.portsWith .form = [p] ∧ (s.station p).offset = 0 := by
  unfold startCheck1
  split
  · next p h => simp [h]
  · next h => simp only [Bool.false_eq_true, false_iff, not_exists, not_and]; exact fun p hp => absurd hp (h p)

/-- Check 2: the PUNCH station (R4). -/
theorem startCheck2_iff {s : State} :
    startCheck2 s = true ↔ ∃ p, s.portsWith .punch = [p] ∧ s.closeOffset p ≤ 63 := by
  unfold startCheck2
  split
  · next p h => simp [h]
  · next h => simp only [Bool.false_eq_true, false_iff, not_exists, not_and]; exact fun p hp => absurd hp (h p)

/-- What checks 1, 2 and 4 leave for E: it lies in 1 to 63 (R4, R5). -/
theorem startExit_bounds {s : State} (h1 : startCheck1 s = true) (h2 : startCheck2 s = true) (h4 : startCheck4 s = true) :
    ∃ e, startExit s = some e ∧ 1 ≤ e ∧ e ≤ 63 := by
  obtain ⟨p, hp, hp0⟩ := startCheck1_iff.mp h1
  obtain ⟨q, hq, hq63⟩ := startCheck2_iff.mp h2
  have hform : (s.station p).role = .form := mem_portsWith.mp (by rw [hp]; exact List.mem_singleton_self p)
  have hpunch : (s.station q).role = .punch := mem_portsWith.mp (by rw [hq]; exact List.mem_singleton_self q)
  refine ⟨s.closeOffset q, by simp [startExit, hq], ?_, hq63⟩
  by_contra hlow
  have hq0 : (s.station q).offset = 0 := by
    unfold State.closeOffset at hlow
    omega
  have : p = q := eq_of_offset_eq h4 (by rw [hform]; rfl) (by rw [hpunch]; rfl) (hp0.trans hq0.symm)
  rw [this, hpunch] at hform
  cases hform

theorem mapSound_effect {c : Instr} {s t : State} (h : Effect s c t) (hs : MapSound s) : MapSound t := by
  have hheld (h : s.resetHeld = true ∨ s.load = .loading) : s.line = .idle ∧ s.rows = [] := ⟨hs.1 h, hs.2.1 (hs.1 h)⟩
  cases h with
  | masterReset | purge => exact mapSound_of_idle rfl rfl
  | resetRelease held => exact mapSound_of_idle (hheld (.inl held)).1 (hheld (.inl held)).2
  | signature _ loading | signatureEnds _ loading | loadEnds _ loading | loadSelects _ _ loading | loadStops _ loading =>
    exact mapSound_of_idle (hheld (.inr loading)).1 (hheld (.inr loading)).2
  | block octets type body s1 address loading good =>
    obtain ⟨hidle, hrows⟩ := hheld (.inr loading)
    obtain ⟨a, q, e, -, rfl⟩ | ⟨id, a, -, rfl⟩ | ⟨v, rfl⟩ | ⟨a, b, c, rfl⟩ | ⟨o, rfl⟩ := loadBlock_cases good <;>
      exact mapSound_of_idle hidle hrows
  | indexCounted idle => exact mapSound_of_idle idle (hs.2.1 idle)
  | stationWrite p tag target entry q e idle => exact mapSound_of_idle idle (hs.2.1 idle)
  | advancedInDrain drain =>
    have hline : s.line ≠ .idle := by rw [drain]; simp
    have hw : Worked (countIndex s) (advanceRows (countIndex s)) := worked_advanceRows _
    have hrows := (rowsSound_advanceRows (hs.rowsSound hline)).1
    unfold drainEnd
    split
    · next hend =>
      exact (mapSound_of_idle (s := { advanceRows (countIndex s) with line := .idle }) rfl hend.2).sameButPorts
        (sameButPorts_raise _ _ _)
    · next hend =>
      refine hrows.mapSound ?_ ?_ (fun _ hempty => hend ⟨hs.2.2.1 drain, hempty⟩) ?_
      · rw [hw.resetHeld_eq, hw.load_eq]; exact hs.active hline
      · rw [hw.line_eq]; exact hline
      · rw [hw.exitOffset_eq, (samePlan_of_eq hw.stations_eq).startExit_eq]
        exact (hs.2.2.2.1 hline).1
  | advancedInRun id run =>
    have hline : s.line ≠ .idle := by rw [run]; simp
    have hw : Worked (countIndex s) (advanceRows (countIndex s)) := worked_advanceRows _
    obtain ⟨hrows, hpast⟩ := rowsSound_advanceRows (hs.rowsSound hline)
    refine MapSound.sameButPorts (s := placedRow id (advanceRows (countIndex s))) ?_ (formRow_eq _ _).2
    refine (rowsSound_placedRow hrows hpast id).mapSound ?_ ?_ (fun _ => List.append_ne_nil_of_right_ne_nil _ (by simp)) ?_
    · change ¬ ((advanceRows (countIndex s)).resetHeld = true ∨ (advanceRows (countIndex s)).load = .loading)
      rw [hw.resetHeld_eq, hw.load_eq]; exact hs.active hline
    · change (advanceRows (countIndex s)).line ≠ .idle
      rw [hw.line_eq]; exact hline
    · change (advanceRows (countIndex s)).exitOffset = startExit (advanceRows (countIndex s))
      rw [hw.exitOffset_eq, (samePlan_of_eq hw.stations_eq).startExit_eq]
      exact (hs.2.2.2.1 hline).1
  | start p tag held ready stopped pass =>
    obtain ⟨e, he, hlow, hhigh⟩ := startExit_bounds (s := s) (pass _ (by simp [startChecks]))
      (pass _ (by simp [startChecks])) (pass _ (by simp [startChecks]))
    obtain ⟨-, hidle, -, hexit, hfalling, hnumbered⟩ := hs
    refine RowsSound.mapSound ⟨⟨e, he, hlow, hhigh, fun r hr => ?_⟩, hfalling, hnumbered⟩ (by simp [held, ready])
      (by simp) (fun h => by cases h) rfl
    by_cases hline : s.line = .idle
    · rw [show s.rows = [] from hidle hline] at hr; cases hr
    · obtain ⟨hstart, e', he', -, -, hbelow⟩ := hexit hline
      rw [hstart, he, Option.some.injEq] at he'
      exact he' ▸ hbelow r hr
  | stopForming p tag run =>
    have hline : s.line ≠ .idle := by rw [run]; simp
    by_cases hempty : s.rows = []
    · exact mapSound_of_idle (by simp [hempty]) hempty
    · obtain ⟨hbelow, hfalling, hnumbered⟩ := hs.rowsSound hline
      exact RowsSound.mapSound ⟨hbelow, hfalling, hnumbered⟩ (hs.active hline) (by simp [hempty]) (fun _ => hempty)
        (hs.2.2.2.1 hline).1
  | report => exact hs.of_rowKeys (rowKey_updateCard _ _ _ _) rfl rfl rfl rfl rfl (samePlan_of_eq rfl)
  | condemn => exact hs.of_rowKeys (rowKey_condemned _ _ _ _) rfl rfl rfl rfl rfl (samePlan_of_eq rfl)
  | linkDown p | stationModeSet => exact hs.of_rowKeys rfl rfl rfl rfl rfl rfl (samePlan_setMode s _ _)
  | _ => exact hs

/-- Settles O56: START fixes E from checks 1, 2 and 4, an advance moves the rows below it, and nothing else reaches E or
the rows' places. -/
theorem mapStaysSound : Obligations.MapStaysSound := fun _ _ hs h =>
  step_induction (P := MapSound) hs (fun _ _ h => h) (fun _ _ h hs => hs.sameButPorts h)
    (fun _ _ _ h hs => mapSound_effect h hs) h

end Sys2Proof.Machine

/-! ## Verdicts, states and the offsets of the rows -/

namespace Sys2Proof.Machine

/-! ### What the work on a card does to its judgement -/

/-- What the judgement unit decides of a card: its state, the three fields of a condemnation, its verdict and its
inhibited flag, beside its lane. -/
def judgement (c : Card) : Fin 4 × CardState × Option Reason × Option Port × Option Nat × Option Verdict × Bool :=
  (c.lane, c.state, c.reason, c.station, c.condemnOffset, c.verdict, c.summary.inhibited)

theorem judgement_eq_iff {c d : Card} : judgement d = judgement c ↔
    d.lane = c.lane ∧ d.state = c.state ∧ d.reason = c.reason ∧ d.station = c.station ∧
      d.condemnOffset = c.condemnOffset ∧ d.verdict = c.verdict ∧ d.summary.inhibited = c.summary.inhibited := by
  simp [judgement]

/-- A condemnation reads and writes the judgement alone (R115). -/
theorem judgement_condemn {c d : Card} (h : judgement d = judgement c) (x : Reason) (p : Option Port) (o : Nat) :
    judgement (d.condemn x p o) = judgement (c.condemn x p o) := by
  obtain ⟨hlane, hstate, hreason, hstation, hoffset, hverdict, hinhibited⟩ := judgement_eq_iff.mp h
  unfold Card.condemn
  by_cases hopen : c.reason = none ∧ c.state ≠ .frozen
  · rw [if_pos hopen, if_pos (by rwa [hstate, hreason])]
    exact judgement_eq_iff.mpr ⟨hlane, hstate, rfl, rfl, rfl, hverdict, hinhibited⟩
  · rw [if_neg hopen, if_neg (by rwa [hstate, hreason])]
    exact h

/-- A card's judgement is kept, or the card is condemned once. -/
def CondemnedAtMost (c d : Card) : Prop := judgement d = judgement c ∨ ∃ x p o, judgement d = judgement (c.condemn x p o)

theorem CondemnedAtMost.refl (c : Card) : CondemnedAtMost c c := .inl rfl

theorem condemnedAtMost_condemn {c d : Card} (h : judgement d = judgement c) (x : Reason) (p : Option Port) (o : Nat) :
    CondemnedAtMost c (d.condemn x p o) := .inr ⟨x, p, o, judgement_condemn h x p o⟩

theorem CondemnedAtMost.of_judgement {c d e : Card} (h : CondemnedAtMost c d) (he : judgement e = judgement d) :
    CondemnedAtMost c e := by
  obtain h | ⟨x, p, o, h⟩ := h
  · exact .inl (he.trans h)
  · exact .inr ⟨x, p, o, he.trans h⟩

theorem CondemnedAtMost.lane_eq {c d : Card} (h : CondemnedAtMost c d) : d.lane = c.lane := by
  obtain h | ⟨x, p, o, h⟩ := h
  · exact congrArg (·.1) h
  · exact (congrArg (·.1) h).trans (Card.condemn_lane c x p o)

theorem CondemnedAtMost.state_eq {c d : Card} (h : CondemnedAtMost c d) : d.state = c.state := by
  obtain h | ⟨x, p, o, h⟩ := h
  · exact congrArg (·.2.1) h
  · exact (congrArg (·.2.1) h).trans (Card.condemn_state c x p o)

/-! ### The operations on a card -/

theorem condemnedAtMost_closeFeed (stations : PerPort Station) (p : Port) (r : Recipe) (o : Nat) (c : Card) :
    CondemnedAtMost c (closeFeed stations p r o c) := by
  unfold closeFeed
  simp only
  split
  · exact condemnedAtMost_condemn (by rfl) _ _ _
  · exact .inl rfl

theorem condemnedAtMost_closeWork (s : State) (p : Port) (r : Recipe) (o : Nat) (c : Card) :
    CondemnedAtMost c (closeWork s p r o c) := by
  unfold closeWork
  split
  case h_1 => split; exacts [.refl c, condemnedAtMost_condemn (by rfl) _ _ _]
  case h_2 => exact condemnedAtMost_closeFeed _ _ _ _ _
  case h_3 => split; exacts [condemnedAtMost_condemn (by rfl) _ _ _, .refl c]
  case h_4 => exact .inl rfl
  case h_5 => split; exacts [.refl c, condemnedAtMost_condemn (by rfl) _ _ _]
  case h_6 => split; exacts [.inl rfl, .refl c]
  case h_7 | h_8 => exact .refl c

theorem condemnedAtMost_closeCard (s : State) (p : Port) (r : Recipe) (o : Nat) (c : Card) :
    CondemnedAtMost c (closeCard s p r o c) := by
  unfold closeCard
  simp only
  split
  · exact (condemnedAtMost_closeWork s p r o c).of_judgement rfl
  · exact .inl rfl

theorem judgement_orderCard (stations : PerPort Station) (p : Port) (r : Recipe) (outcome : RefillOutcome) (c : Card) :
    judgement (orderCard stations p r outcome c) = judgement c := by
  unfold orderCard
  split <;> rfl

theorem condemnedAtMost_applyForm (p : Port) (o : Nat) (splice : Bool) (outcomes : List FormOutcome) (c : Card) :
    CondemnedAtMost c (applyForm p o splice outcomes c) := by
  unfold applyForm
  simp only
  split
  · exact condemnedAtMost_condemn (by rfl) _ _ _
  · split
    · exact condemnedAtMost_condemn (by rfl) _ _ _
    · exact .inl rfl

theorem condemnedAtMost_applyInspection (stations : PerPort Station) (p : Port) (o : Nat) (r : Recipe)
    (entries : List InspectEntry) (c : Card) : CondemnedAtMost c (applyInspection stations p o r entries c) := by
  unfold applyInspection
  simp only
  split
  · exact condemnedAtMost_condemn (by rfl) _ _ _
  · exact .inl rfl

theorem condemnedAtMost_applySealHit (p : Port) (o : Nat) (r : Recipe) (sealed : Bool) (t w q : Nat) (c : Card) :
    CondemnedAtMost c (applySealHit p o r sealed t w q c) := by
  have hdose (d : Card) (x : Seal) (n : Nat) (h : d.summary.inhibited = x.inhibited) :
      judgement { d with summary := x.addDose n } = judgement d := by
    refine judgement_eq_iff.mpr ⟨rfl, rfl, rfl, rfl, rfl, rfl, ?_⟩
    unfold Seal.addDose
    split <;> exact h.symm
  unfold applySealHit
  simp only
  split
  · split
    · refine (condemnedAtMost_condemn (c := c) ?_ .sealPressure (some p) o).of_judgement (hdose _ _ _ ?_)
      · rfl
      · rw [Card.condemn_summary]
    · exact .inl (hdose _ _ _ rfl)
  · exact .inl rfl

theorem condemnedAtMost_report {c : Instr} {p : Port} {number : Word} {lane : Octet} {permitted : Role → Bool}
    {check : Row → Recipe → Card → Option Code} {app : State → Row → Recipe → Card → Card}
    (kind : ReportOf c p number lane permitted check app) (s : State) (row : Row) (r : Recipe) (x : Card) :
    CondemnedAtMost x (app s row r (joinReported p x)) := by
  have hjoin : judgement (joinReported p x) = judgement x := rfl
  have hcard {d : Card} (h : CondemnedAtMost (joinReported p x) d) : CondemnedAtMost x d := by
    obtain h | ⟨y, q, o, h⟩ := h
    · exact .inl (h.trans hjoin)
    · exact .inr ⟨y, q, o, h.trans (judgement_condemn hjoin y q o)⟩
  cases kind with
  | formResult => exact hcard (condemnedAtMost_applyForm _ _ _ _ _)
  | placement => exact .inl rfl
  | inspection => exact hcard (condemnedAtMost_applyInspection _ _ _ _ _ _)
  | sealHit => exact hcard (condemnedAtMost_applySealHit _ _ _ _ _ _ _ _)
  | discharge => exact .inl rfl

/-! ### Cards of the rows after a change -/

/-- A card after a report's update is the card before, or the named one with the report applied. -/
theorem mem_updateCard {number : Word} {l : Fin 4} {f : Card → Card} {rows : List Row} {row' : Row}
    (h : row' ∈ updateCard number l f rows) :
    ∃ row ∈ rows, rowKey row' = rowKey row ∧
      row'.cards = row.cards.map fun c => if row.number = number ∧ c.lane = l then f c else c := by
  obtain ⟨row, hrow, rfl⟩ := List.mem_map.mp h
  refine ⟨row, hrow, ?_, ?_⟩
  · split <;> rfl
  · by_cases hn : row.number = number <;> simp [hn]

/-- A row after CONDEMN (R120). -/
theorem mem_condemned {first : Word} {count mask : Octet} {rows : List Row} {row' : Row}
    (h : row' ∈ rows.map fun r => if inRowRange first count.toNat r.number then condemnRow mask r else r) :
    ∃ row ∈ rows, rowKey row' = rowKey row ∧ ∃ f : Card → Card, row'.cards = row.cards.map f ∧
      ∀ c, f c = c ∨ f c = c.condemn .operator none row.offset := by
  obtain ⟨row, hrow, rfl⟩ := List.mem_map.mp h
  refine ⟨row, hrow, ?_, ?_⟩
  · split <;> rfl
  · split
    · refine ⟨fun c => if lanesMeet mask row c then c.condemn .operator none row.offset else c, rfl, fun c => ?_⟩
      by_cases hmeet : lanesMeet mask row c = true
      · exact .inr (if_pos hmeet)
      · exact .inl (if_neg hmeet)
    · exact ⟨id, by simp, fun c => .inl rfl⟩

/-- The rows `rows'` are rows of `rows`, their cards' judgements kept or condemned once. -/
def RowsCondemnedAtMost (rows rows' : List Row) : Prop :=
  ∀ row' ∈ rows', ∃ row ∈ rows, rowKey row' = rowKey row ∧ ∀ d ∈ row'.cards, ∃ c ∈ row.cards, CondemnedAtMost c d

theorem rowsCondemnedAtMost_report {c : Instr} {p : Port} {number : Word} {lane : Octet} {permitted : Role → Bool}
    {check : Row → Recipe → Card → Option Code} {app : State → Row → Recipe → Card → Card}
    (kind : ReportOf c p number lane permitted check app) (s : State) (row : Row) (r : Recipe) (l : Fin 4)
    (rows : List Row) :
    RowsCondemnedAtMost rows (updateCard number l (fun c => app s row r (joinReported p c)) rows) := by
  intro row' hrow'
  obtain ⟨x, hx, hkey, hcards⟩ := mem_updateCard hrow'
  refine ⟨x, hx, hkey, fun d hd => ?_⟩
  rw [hcards] at hd
  obtain ⟨y, hy, rfl⟩ := List.mem_map.mp hd
  refine ⟨y, hy, ?_⟩
  split
  · exact condemnedAtMost_report kind s row r y
  · exact .refl y

theorem rowsCondemnedAtMost_condemn (first : Word) (count mask : Octet) (rows : List Row) :
    RowsCondemnedAtMost rows
      (rows.map fun r => if inRowRange first count.toNat r.number then condemnRow mask r else r) := by
  intro row' hrow'
  obtain ⟨x, hx, hkey, f, hcards, hf⟩ := mem_condemned hrow'
  refine ⟨x, hx, hkey, fun d hd => ?_⟩
  rw [hcards] at hd
  obtain ⟨y, hy, rfl⟩ := List.mem_map.mp hd
  refine ⟨y, hy, ?_⟩
  obtain h | h := hf y <;> rw [h]
  · exact .refl y
  · exact condemnedAtMost_condemn (by rfl) _ _ _

/-! ### Soundness of verdict, reason and state -/

theorem CardSound.of_judgement {c d : Card} (hs : CardSound c) (h : judgement d = judgement c) : CardSound d := by
  obtain ⟨-, hstate, hreason, hstation, hoffset, hverdict, hinhibited⟩ := judgement_eq_iff.mp h
  unfold CardSound at hs ⊢
  rwa [hstate, hreason, hstation, hoffset, hverdict, hinhibited]

theorem CardSound.condemn {c : Card} (hs : CardSound c) (x : Reason) (p : Option Port) (o : Nat) :
    CardSound (c.condemn x p o) := by
  obtain ⟨hnone, hstate, h⟩ | ⟨-, h⟩ := Card.condemn_eq c x p o <;> rw [h]
  · obtain ⟨hverdict, -, -, -, -, -⟩ := hs
    have hv : c.verdict = none := by
      cases e : c.verdict with
      | none => rfl
      | some v => exact absurd (hverdict.mp (by rw [e]; rfl)) hstate
    exact ⟨hverdict, fun h => by simp [hv] at h, fun _ => rfl, by simp, by simp, fun _ => rfl⟩
  · exact hs

theorem CardSound.of_condemnedAtMost {c d : Card} (hs : CardSound c) (h : CondemnedAtMost c d) : CardSound d := by
  obtain h | ⟨x, p, o, h⟩ := h
  · exact hs.of_judgement h
  · exact (hs.condemn x p o).of_judgement h

theorem CardSound.judgeCard {c : Card} (hs : CardSound c) (r : Recipe) (o : Nat) : CardSound (judgeCard r o c) := by
  have hmarked (d : Card) (hd : CardSound d) : CardSound (if d.state = .opened then { d with state := .judged } else d) := by
    split
    · next hopen =>
      obtain ⟨hverdict, hrest⟩ := hd
      rw [hopen] at hverdict
      exact ⟨by simpa using hverdict, hrest⟩
    · exact hd
  refine hmarked _ ?_
  split
  · exact hs.condemn _ _ _
  · exact hs

theorem CardSound.inhibitCard {c : Card} (hs : CardSound c) (r : Recipe) : CardSound (inhibitCard r c) := by
  unfold Machine.inhibitCard
  split
  · next h =>
    obtain ⟨h1, h2, h3, h4, h5, -⟩ := hs
    simp only [inhibits, Bool.and_eq_true] at h
    exact ⟨h1, h2, h3, h4, h5, fun _ => h.2⟩
  · exact hs

/-- The freeze gives PASS exactly to a card without a reason (R118). -/
theorem CardSound.freezeCard {c : Card} (hs : CardSound c) (r : Recipe) (o : Nat) : CardSound (freezeCard r o c) := by
  have hfrozen (d : Card) (hd : CardSound d) :
      CardSound { d with state := .frozen, verdict := some (if d.reason = none then .pass else .reject) } := by
    obtain ⟨-, -, -, hoffset, hstation, hinhibited⟩ := hd
    by_cases hnone : d.reason = none
    · exact ⟨by simp, fun _ => hnone, fun h => by simp [hnone] at h, hoffset, hstation, hinhibited⟩
    · exact ⟨by simp, fun h => by simp [hnone] at h, fun _ => Option.isSome_iff_ne_none.mpr hnone, hoffset, hstation,
        hinhibited⟩
  refine hfrozen _ ?_
  split
  · exact hs.condemn _ _ _
  · exact hs

theorem CardSound.cardWork {s : State} {row : Row} {c d : Card} (hs : CardSound c) (h : CardWork s row c d) : CardSound d := by
  cases h with
  | close => exact hs.of_condemnedAtMost (condemnedAtMost_closeCard _ _ _ _ _)
  | order => exact hs.of_judgement (judgement_orderCard _ _ _ _ _)
  | judge => exact hs.judgeCard _ _
  | inhibit => exact hs.inhibitCard _
  | freeze => exact hs.freezeCard _ _

theorem cardSound_fresh (l : Fin 4) (n : Nat) : CardSound (Card.fresh l n) := by
  simp [CardSound, Card.fresh]

/-- A card's record has no reason where its verdict is PASS, and one attempt count for each count (R130). -/
theorem CardSound.retireRecord {c : Card} (hs : CardSound c) (row : Row) (r : Recipe) (now : Word) :
    ((retireRecord row r now c).verdict = .pass → (retireRecord row r now c).reason = none) ∧
      (retireRecord row r now c).counts.length = (retireRecord row r now c).attempts.length := by
  refine ⟨fun h => hs.2.1 ?_, by simp [Machine.retireRecord]⟩
  change c.verdict.getD .reject = .pass at h
  cases hv : c.verdict with
  | none => rw [hv] at h; cases h
  | some v => rw [hv] at h; exact congrArg some h

theorem VerdictsSound.sameButPorts {s t : State} (hs : VerdictsSound s) (h : SameButPorts s t) : VerdictsSound t := by
  obtain ⟨v, e, i, n, rfl⟩ := h
  exact hs

theorem cardSound_advanceRows {s : State} (hs : VerdictsSound s) :
    ∀ row ∈ (advanceRows s).rows, ∀ c ∈ row.cards, CardSound c := by
  intro row' hrow'
  obtain ⟨row, hrow, -, hwork⟩ := mem_advanceRows hrow'
  exact hwork.forall_cards (fun _ _ hw hc => hc.cardWork hw) (hs.1 row hrow)

/-- A retired record is that of a sound card. -/
theorem RetiredRecord.exists_card {s : State} {rec : RetireRecord} (h : RetiredRecord s (moveRows s.rows) rec) :
    ∃ row ∈ s.rows, s.exitOffset = some (row.offset + 1) ∧ ∃ row', RowTaken s (moved row) row' ∧ ∃ c ∈ row'.cards,
      rec = retireRecord row' (s.recipe row'.recipe) s.timeTag c := by
  obtain ⟨x, hx, row', hwork, c, hc, rfl⟩ := h
  obtain ⟨hx, hexit⟩ := List.mem_filter.mp hx
  obtain ⟨row, hrow, rfl⟩ := List.mem_map.mp hx
  exact ⟨row, hrow, of_decide_eq_true hexit, row', hwork, c, hc, rfl⟩

theorem verdictsSound_advanceRows {s : State} (hs : VerdictsSound s) : VerdictsSound (advanceRows s) := by
  refine ⟨cardSound_advanceRows hs, fun rec hrec => ?_⟩
  obtain ⟨records, hoffered, -, hrecords⟩ := recordsOffered_advanceRows s
  obtain ⟨joined, htrace, hjoined⟩ := hoffered.trace
  rw [htrace] at hrec
  obtain hrec | hrec := List.mem_append.mp hrec
  · exact hs.2 rec hrec
  · obtain ⟨row, hrow, -, row', hwork, c, hc, rfl⟩ := (hrecords rec (hjoined rec hrec)).exists_card
    exact (hwork.rowWork.forall_cards (fun _ _ hw hc => hc.cardWork hw) (hs.1 row hrow) c hc).retireRecord _ _ _

theorem verdictsSound_effect {c : Instr} {s t : State} (h : Effect s c t) (hs : VerdictsSound s) : VerdictsSound t := by
  have hcards {rows' : List Row} (h : RowsCondemnedAtMost s.rows rows') :
      ∀ row ∈ rows', ∀ c ∈ row.cards, CardSound c := by
    intro row' hrow' d hd
    obtain ⟨row, hrow, -, hfrom⟩ := h row' hrow'
    obtain ⟨x, hx, hcond⟩ := hfrom d hd
    exact (hs.1 row hrow x hx).of_condemnedAtMost hcond
  cases h with
  | masterReset => exact ⟨fun _ hrow => absurd hrow List.not_mem_nil, fun _ hrec => absurd hrec List.not_mem_nil⟩
  | purge => exact ⟨fun _ hrow => absurd hrow List.not_mem_nil, hs.2⟩
  | block octets type body s1 address loading good =>
    obtain ⟨a, q, e, -, rfl⟩ | ⟨id, a, -, rfl⟩ | ⟨v, rfl⟩ | ⟨a, b, c, rfl⟩ | ⟨o, rfl⟩ := loadBlock_cases good <;> exact hs
  | advancedInDrain =>
    have hrows : VerdictsSound (advanceRows (countIndex s)) := verdictsSound_advanceRows (s := countIndex s) hs
    obtain h | ⟨-, h⟩ := drainEnd_sameButPorts (countIndex s) (advanceRows (countIndex s))
    · exact hrows.sameButPorts h
    · exact VerdictsSound.sameButPorts (s := { advanceRows (countIndex s) with line := .idle }) hrows h
  | advancedInRun id =>
    have hrows : VerdictsSound (advanceRows (countIndex s)) := verdictsSound_advanceRows (s := countIndex s) hs
    refine VerdictsSound.sameButPorts (s := placedRow id (advanceRows (countIndex s))) ⟨fun row hrow c hc => ?_, hrows.2⟩
      (formRow_eq _ _).2
    obtain hrow | hrow := List.mem_append.mp hrow
    · exact hrows.1 row hrow c hc
    · rw [List.mem_singleton.mp hrow] at hc
      obtain ⟨l, -, rfl⟩ := List.mem_map.mp hc
      exact cardSound_fresh _ _
  | report c p number lane permitted check app row l card held ready kind =>
    exact ⟨hcards (rowsCondemnedAtMost_report kind s row _ l s.rows), hs.2⟩
  | condemn p tag first count mask => exact ⟨hcards (rowsCondemnedAtMost_condemn first count mask s.rows), hs.2⟩
  | retireRead => exact ⟨hs.1, fun rec hrec => hs.2 rec (List.mem_of_mem_drop hrec)⟩
  | _ => exact hs

/-! ### The plan of the line that START leaves -/

theorem SamePlan.lowestSeal_eq {s t : State} (h : SamePlan s t) : lowestSeal t = lowestSeal s := by
  simp only [lowestSeal, h.portsWith_eq, h.offset_eq]

theorem SamePlan.startCheck1_eq {s t : State} (h : SamePlan s t) : startCheck1 t = startCheck1 s := by
  simp only [startCheck1, h.portsWith_eq, h.offset_eq]

theorem SamePlan.startCheck2_eq {s t : State} (h : SamePlan s t) : startCheck2 t = startCheck2 s := by
  simp only [startCheck2, h.portsWith_eq, h.closeOffset_eq]

theorem SamePlan.startCheck4_eq {s t : State} (h : SamePlan s t) : startCheck4 t = startCheck4 s := by
  unfold startCheck4
  exact decide_eq_decide.mpr (by simp only [linePorts, h.role_eq, h.offset_eq])

theorem SamePlan.startCheck5_eq {s t : State} (h : SamePlan s t) : startCheck5 t = startCheck5 s := by
  simp only [startCheck5, h.lowestSeal_eq, h.portsWith_eq, h.closeOffset_eq]

theorem SamePlan.startCheck9_eq {s t : State} (h : SamePlan s t) : startCheck9 t = startCheck9 s := by
  simp only [startCheck9, lowestInspect, h.portsWith_eq, h.offset_eq, h.closeOffset_eq]

/-- The configuration of the line reads no mode. -/
theorem LineConfigured.of_samePlan {s t : State} (hs : LineConfigured s) (h : SamePlan s t)
    (hexit : t.exitOffset = s.exitOffset) (hseal : t.sealOffset = s.sealOffset) : LineConfigured t := by
  obtain ⟨h1, h2, h3, h4, h5, h6, h7, h9, he, hl⟩ := hs
  refine ⟨h.startCheck1_eq.trans h1, h.startCheck2_eq.trans h2, ?_, h.startCheck4_eq.trans h4, h.startCheck5_eq.trans h5,
    ?_, ?_, h.startCheck9_eq.trans h9, ?_, ?_⟩
  · simpa only [startCheck3, h.portsWith_eq] using h3
  · simpa only [startCheck6, h.portsWith_eq, h.offset_eq, h.closeOffset_eq] using h6
  · simpa only [startCheck7, h.portsWith_eq] using h7
  · rw [hexit, he, h.startExit_eq]
  · rw [hseal, hl, h.lowestSeal_eq]

/-- What the judgement unit knows of a configured line: S1 is the offset of a SEAL station, behind offset 0 and before the
one PUNCH station, which closes at E (R4, R5). -/
structure LinePlan (s : State) (s1 : Nat) (q : Port) : Prop where
  first : s.sealOffset = some s1
  atSeal : ∃ p, (s.station p).role = .seal ∧ (s.station p).offset = s1
  punch : (s.station q).role = .punch
  onePunch : ∀ p, (s.station p).role = .punch → p = q
  past : 0 < s1
  before : s1 < (s.station q).offset
  exit : s.exitOffset = some (s.closeOffset q)

theorem lowestSeal_spec {s : State} {o : Nat} (h : lowestSeal s = some o) :
    (∃ p, (s.station p).role = .seal ∧ (s.station p).offset = o) ∧ ∀ p, (s.station p).role = .seal → o ≤ (s.station p).offset := by
  obtain ⟨hmem, hle⟩ := List.min?_eq_some_iff.mp h
  obtain ⟨p, hp, hpo⟩ := List.mem_map.mp hmem
  exact ⟨⟨p, mem_portsWith.mp hp, hpo⟩, fun p hp => hle _ (List.mem_map_of_mem (mem_portsWith.mpr hp))⟩

theorem LineConfigured.linePlan {s : State} (hs : LineConfigured s) : ∃ s1 q, LinePlan s s1 q := by
  obtain ⟨h1, h2, -, h4, h5, h6, -, -, hexit, hseal⟩ := hs
  obtain ⟨f, hf, hf0⟩ := startCheck1_iff.mp h1
  obtain ⟨q, hq, -⟩ := startCheck2_iff.mp h2
  have hform : (s.station f).role = .form := mem_portsWith.mp (by rw [hf]; exact List.mem_singleton_self f)
  have hpunch : (s.station q).role = .punch := mem_portsWith.mp (by rw [hq]; exact List.mem_singleton_self q)
  cases hlow : lowestSeal s with
  | none => rw [startCheck5, hlow] at h5; cases h5
  | some s1 =>
    obtain ⟨⟨p, hp, hpo⟩, -⟩ := lowestSeal_spec hlow
    refine ⟨s1, q, hseal.trans hlow, ⟨p, hp, hpo⟩, hpunch, fun x hx => ?_, ?_, ?_, by rw [hexit, startExit, hq]; rfl⟩
    · have := mem_portsWith.mpr hx
      rw [hq] at this
      exact List.mem_singleton.mp this
    · by_contra hzero
      have : f = p := eq_of_offset_eq h4 (by rw [hform]; rfl) (by rw [hp]; rfl) (by omega)
      rw [this, hp] at hform
      cases hform
    · have hclose : s.closeOffset p ≤ (s.station q).offset :=
        of_decide_eq_true (List.all_eq_true.mp (List.all_eq_true.mp h6 p (mem_portsWith.mpr hp)) q (mem_portsWith.mpr hpunch))
      have hne : (s.station p).offset ≠ (s.station q).offset := fun ho => by
        have : p = q := eq_of_offset_eq h4 (by rw [hp]; rfl) (by rw [hpunch]; rfl) ho
        rw [this, hpunch] at hp
        cases hp
      unfold State.closeOffset at hclose
      omega

theorem LinePlan.of_worked {s t : State} {s1 : Nat} {q : Port} (h : Worked s t) (hs : LinePlan s s1 q) : LinePlan t s1 q := by
  obtain ⟨⟨w, rfl⟩, -⟩ := h
  exact ⟨hs.first, hs.atSeal, hs.punch, hs.onePunch, hs.past, hs.before, hs.exit⟩

/-! ### The states of the cards of a row that has arrived -/

/-- One arrival of a row establishes what the other arrivals keep. -/
theorem arriveRow_establishes {P : Row → Prop} {row : Row} {s : State} {p : Port}
    (here : (s.station p).offset = row.offset)
    (hp : ∀ x : Row × State, RowWork s row x.1 ∧ SameButPorts s x.2 → P (arriveAt p x.1 x.2).1)
    (hkeep : ∀ q (x : Row × State), (s.station q).offset = x.1.offset → SameButPorts s x.2 → P x.1 →
      P (arriveAt q x.1 x.2).1) : P (arriveRow row s).1 := by
  have hwork (x : Row × State) (hx : RowWork s row x.1 ∧ SameButPorts s x.2) (q : Port) :
      RowWork s row (if (s.station q).offset = x.1.offset then arriveAt q x.1 x.2 else x).1 ∧
        SameButPorts s (if (s.station q).offset = x.1.offset then arriveAt q x.1 x.2 else x).2 := by
    split
    · next hq =>
      have hst : x.2.station q = s.station q := by rw [State.station, State.station, hx.2.stations_eq]
      obtain ⟨h1, h2⟩ := rowWork_arriveAt (s := x.2) (p := q) (row := x.1) (hst ▸ hq)
      exact ⟨hx.1.trans (h1.of_sameButPorts hx.2), hx.2.trans h2⟩
    · exact hx
  have hfold (l : List Port) (hl : p ∈ l) : ∀ x : Row × State, RowWork s row x.1 ∧ SameButPorts s x.2 →
      P (l.foldl (fun x q => if (s.station q).offset = x.1.offset then arriveAt q x.1 x.2 else x) x).1 := by
    have hrest (l : List Port) : ∀ x : Row × State, RowWork s row x.1 ∧ SameButPorts s x.2 → P x.1 →
        P (l.foldl (fun x q => if (s.station q).offset = x.1.offset then arriveAt q x.1 x.2 else x) x).1 := by
      induction l with
      | nil => exact fun x _ hx => hx
      | cons q l ih =>
        intro x hx hP
        refine ih _ (hwork x hx q) ?_
        beta_reduce
        split
        · next hq => exact hkeep q x hq hx.2 hP
        · exact hP
    induction l with
    | nil => cases hl
    | cons q l ih =>
      intro x hx
      rw [List.foldl_cons]
      by_cases hq : p = q
      · subst hq
        refine hrest l _ (hwork x hx p) ?_
        rw [if_pos (here.trans hx.1.offset_eq.symm)]
        exact hp x hx
      · exact ih ((List.mem_cons.mp hl).resolve_left hq) _ (hwork x hx q)
  exact hfold Port.all (by cases p <;> simp [Port.all]) (row, s) ⟨.refl s row, .refl s⟩

theorem judgeCard_state (r : Recipe) (o : Nat) (c : Card) :
    (judgeCard r o c).state = if c.state = .opened then .judged else c.state := by
  have hmarked (d : Card) (hd : d.state = c.state) : (if d.state = .opened then { d with state := .judged } else d).state
      = if c.state = .opened then .judged else c.state := by
    rw [← hd]
    split <;> rfl
  refine hmarked _ ?_
  split
  · exact Card.condemn_state c _ _ _
  · rfl

theorem inhibitCard_state (r : Recipe) (c : Card) : (inhibitCard r c).state = c.state := by
  unfold inhibitCard
  split <;> rfl

/-- What a piece of work of an advance does to a card's state: the judgement at S1, the freeze at PUNCH, else nothing
(R95, R118). -/
theorem CardWork.state_cases {s : State} {row : Row} {c d : Card} (h : CardWork s row c d) :
    d.state = c.state
      ∨ (s.sealOffset = some row.offset ∧ c.state = .opened ∧ d.state = .judged)
      ∨ ((∃ p, (s.station p).role = .punch ∧ (s.station p).offset = row.offset) ∧ d.state = .frozen) := by
  cases h with
  | close => exact .inl (condemnedAtMost_closeCard _ _ _ _ _).state_eq
  | order => exact .inl (congrArg (·.2.1) (judgement_orderCard _ _ _ _ _))
  | judge p _ _ _ first =>
    rw [judgeCard_state]
    split
    · next hopen => exact .inr (.inl ⟨first, hopen, rfl⟩)
    · exact .inl rfl
  | inhibit => exact .inl (inhibitCard_state _ _)
  | freeze p _ role here => exact .inr (.inr ⟨⟨p, role, here⟩, rfl⟩)

/-- The states a card goes through in the work of its row. -/
theorem CardWorked.state_cases {s : State} {row : Row} {c d : Card} (h : CardWorked s row c d) :
    d.state = c.state
      ∨ (s.sealOffset = some row.offset ∧ c.state = .opened ∧ d.state = .judged)
      ∨ ((∃ p, (s.station p).role = .punch ∧ (s.station p).offset = row.offset) ∧ d.state = .frozen) := by
  induction h with
  | refl => exact .inl rfl
  | tail _ hstep ih =>
    obtain h | ⟨h1, h2, h3⟩ | ⟨h1, h2⟩ := hstep.state_cases
    · rw [h]; exact ih
    · obtain k | ⟨-, -, k⟩ | ⟨-, k⟩ := ih
      · exact .inr (.inl ⟨h1, k ▸ h2, h3⟩)
      · rw [k] at h2; cases h2
      · rw [k] at h2; cases h2
    · exact .inr (.inr ⟨h1, h2⟩)

/-- What the work of an advance keeps of the cards, one arrival among several establishes for the row. -/
theorem arriveRow_establishes_cards {P : Card → Prop} {row : Row} {s : State} {p : Port}
    (here : (s.station p).offset = row.offset)
    (hp : ∀ x : Row × State, RowWork s row x.1 ∧ SameButPorts s x.2 → ∀ c ∈ (arriveAt p x.1 x.2).1.cards, P c)
    (hkeep : ∀ t row c d, CardWork t row c d → P c → P d) : ∀ c ∈ (arriveRow row s).1.cards, P c := by
  refine arriveRow_establishes (P := fun r => ∀ c ∈ r.cards, P c) here hp fun q x hq hsame hP => ?_
  have hst : x.2.station q = s.station q := by rw [State.station, State.station, hsame.stations_eq]
  exact (rowWork_arriveAt (s := x.2) (hst ▸ hq)).1.forall_cards (hkeep _ _) hP

theorem freezeCard_state (r : Recipe) (o : Nat) (c : Card) : (freezeCard r o c).state = .frozen := rfl

/-- A row that arrives at the PUNCH station leaves it with every card FROZEN (R118). -/
theorem workedRow_frozen {s : State} {row : Row} {p : Port} (role : (s.station p).role = .punch)
    (here : (s.station p).offset = row.offset) : ∀ c ∈ (workedRow s row).cards, c.state = .frozen := by
  have hclosed := rowWork_closeRow s row
  refine arriveRow_establishes_cards (here.trans hclosed.offset_eq.symm) (fun x hx c hc => ?_) fun t row c d hw hc => ?_
  · have hrole : (x.2.station p).role = .punch := by rw [State.station, hx.2.stations_eq]; exact role
    simp only [arriveAt, hrole] at hc
    obtain ⟨c0, -, rfl⟩ := List.mem_map.mp hc
    exact freezeCard_state _ _ _
  · obtain h | ⟨-, h, -⟩ | ⟨-, h⟩ := hw.state_cases
    · rw [h, hc]
    · rw [hc] at h; cases h
    · exact h

/-- A row that arrives at S1 leaves it with no card OPENED (R95). -/
theorem workedRow_judged {s : State} {row : Row} {p : Port} (role : (s.station p).role = .seal)
    (here : (s.station p).offset = row.offset) (first : s.sealOffset = some row.offset) :
    ∀ c ∈ (workedRow s row).cards, c.state ≠ .opened := by
  have hclosed := rowWork_closeRow s row
  refine arriveRow_establishes_cards (here.trans hclosed.offset_eq.symm) (fun x hx c hc => ?_) fun t row c d hw hc => ?_
  · have hrole : (x.2.station p).role = .seal := by rw [State.station, hx.2.stations_eq]; exact role
    have hfirst : x.2.sealOffset = some x.1.offset := by
      rw [hx.2.sealOffset_eq, first, hx.1.offset_eq, hclosed.offset_eq]
    have hjudged (d : Card) (r : Recipe) (o : Nat) : (judgeCard r o d).state ≠ .opened := by
      rw [judgeCard_state]
      split
      · simp
      · assumption
    simp only [arriveAt, hrole, hfirst, if_true] at hc
    split at hc
    · obtain ⟨c0, hc0, rfl⟩ := List.mem_map.mp hc
      obtain ⟨c1, -, rfl⟩ := List.mem_map.mp hc0
      rw [inhibitCard_state]
      exact hjudged _ _ _
    · obtain ⟨c1, -, rfl⟩ := List.mem_map.mp hc
      exact hjudged _ _ _
  · obtain h | ⟨-, h, -⟩ | ⟨-, h⟩ := hw.state_cases
    · rwa [h]
    · exact absurd h hc
    · rw [h]; simp

/-! ### States and offsets -/

/-- The states of a row's cards that its offset gives them (R23). -/
def StatesAt (s1 punch : Nat) (row : Row) : Prop := ∀ c ∈ row.cards, c.state = stateAt s1 punch row.offset

theorem stateAt_succ_eq {s1 punch o : Nat} (h1 : o + 1 ≠ s1) (h2 : o + 1 ≠ punch) :
    stateAt s1 punch (o + 1) = stateAt s1 punch o := by
  unfold stateAt
  split_ifs <;> first | rfl | omega

/-- The work of an advance takes a row's cards to the state of the new offset. -/
theorem statesAt_rowTaken {s : State} {s1 : Nat} {q : Port} (hplan : LinePlan s s1 q) {row row' : Row}
    (h : RowTaken s (moved row) row') (hs : StatesAt s1 (s.station q).offset row) :
    StatesAt s1 (s.station q).offset row' := by
  have hwork := h.rowWork
  have ho : row'.offset = row.offset + 1 := hwork.offset_eq
  obtain ⟨t, ht, rfl⟩ := h
  have htplan := hplan.of_worked ht
  intro d hd
  rw [ho]
  by_cases hpunch : row.offset + 1 = (s.station q).offset
  · have hbefore := hplan.before
    have hfrozen := workedRow_frozen htplan.punch (row := moved row) (by rw [ht.station_eq]; exact hpunch.symm) d hd
    rw [hfrozen, stateAt, if_neg (by omega), if_neg (by omega)]
  · have hcases : ∃ c ∈ row.cards, d.state = c.state ∨ (s.sealOffset = some (row.offset + 1) ∧ d.state = .judged) := by
      obtain ⟨f, hrow', hf⟩ := hwork
      rw [hrow'] at hd
      obtain ⟨c, hc, rfl⟩ := List.mem_map.mp hd
      refine ⟨c, hc, ?_⟩
      obtain h | ⟨h, -, h'⟩ | ⟨⟨p, hp, hpo⟩, -⟩ := (hf c).state_cases
      · exact .inl h
      · exact .inr ⟨h, h'⟩
      · rw [hplan.onePunch p hp] at hpo
        exact absurd hpo.symm hpunch
    obtain ⟨c, hc, hstate⟩ := hcases
    by_cases hseal : row.offset + 1 = s1
    · have hbefore := hplan.before
      obtain ⟨p, hp, hpo⟩ := htplan.atSeal
      have hne := workedRow_judged (row := moved row) hp (hpo.trans hseal.symm) (htplan.first.trans (by rw [← hseal]; rfl)) d hd
      have hopen : c.state = .opened := by rw [hs c hc, stateAt, if_pos (by omega)]
      rw [stateAt, if_neg (by omega), if_pos (by omega)]
      exact (hstate.resolve_left fun h => hne (h.trans hopen)).2
    · have hfirst := hplan.first
      have hkept : d.state = c.state := hstate.resolve_right fun h => by
        rw [hfirst, Option.some.injEq] at h
        exact hseal h.1.symm
      rw [hkept, hs c hc, stateAt_succ_eq hseal hpunch]

/-- On a running or draining line with its plan, all states are those of the offsets. -/
theorem statesFollowOffsets_iff {s : State} : StatesFollowOffsets s ↔
    MapSound s ∧ (s.line ≠ .idle → LineConfigured s ∧ ∀ s1 q, LinePlan s s1 q →
      ∀ row ∈ s.rows, StatesAt s1 (s.station q).offset row) := by
  refine and_congr_right fun _ => imp_congr_right fun _ => and_congr_right fun hconf => ⟨fun h s1 q hplan => ?_, fun h s1 q hfirst hpunch => ?_⟩
  · exact h s1 q hplan.first hplan.punch
  · obtain ⟨s1', q', hplan⟩ := hconf.linePlan
    have hs1 : s1' = s1 := Option.some.inj (hplan.first.symm.trans hfirst)
    have hq : q = q' := hplan.onePunch q hpunch
    subst hs1 hq
    exact h _ _ hplan

theorem StatesFollowOffsets.sameButPorts {s t : State} (hs : StatesFollowOffsets s) (h : SameButPorts s t) :
    StatesFollowOffsets t := by
  obtain ⟨v, e, i, n, rfl⟩ := h
  exact hs

theorem statesFollowOffsets_of_idle {s : State} (hmap : MapSound s) (h : s.line = .idle) : StatesFollowOffsets s :=
  ⟨hmap, fun hne => absurd h hne⟩

theorem LineConfigured.of_worked {s t : State} (hs : LineConfigured s) (h : Worked s t) : LineConfigured t :=
  hs.of_samePlan (samePlan_of_eq h.stations_eq) h.exitOffset_eq h.sealOffset_eq

/-- The plan of a line reads the table but for its modes, E and S1. -/
theorem LinePlan.of_samePlan {s t : State} {s1 : Nat} {q : Port} (hs : LinePlan s s1 q) (h : SamePlan s t)
    (hexit : t.exitOffset = s.exitOffset) (hseal : t.sealOffset = s.sealOffset) : LinePlan t s1 q := by
  obtain ⟨p, hp, hpo⟩ := hs.atSeal
  exact ⟨hseal.trans hs.first, ⟨p, (h.role_eq p).trans hp, (h.offset_eq p).trans hpo⟩, (h.role_eq q).trans hs.punch,
    fun x hx => hs.onePunch x ((h.role_eq x).symm.trans hx), hs.past, by rw [h.offset_eq]; exact hs.before,
    by rw [hexit, hs.exit, h.closeOffset_eq]⟩

theorem SamePlan.symm {s t : State} (h : SamePlan s t) : SamePlan t s := fun p => by
  have := h p
  unfold sameButMode at *
  rw [← this]

/-- Where the plan stays and every row of the new map has the states of its offset, states follow offsets. -/
theorem statesFollowOffsets_of_plan {s t : State} (hs : StatesFollowOffsets s) (hline : s.line ≠ .idle) (hmap : MapSound t)
    (hplan : SamePlan s t) (hexit : t.exitOffset = s.exitOffset) (hseal : t.sealOffset = s.sealOffset)
    (hrows : ∀ s1 q, LinePlan s s1 q → (∀ row ∈ s.rows, StatesAt s1 (s.station q).offset row) →
      ∀ row ∈ t.rows, StatesAt s1 (s.station q).offset row) : StatesFollowOffsets t := by
  obtain ⟨-, hconf⟩ := statesFollowOffsets_iff.mp hs
  obtain ⟨hconf, hstates⟩ := hconf hline
  refine statesFollowOffsets_iff.mpr ⟨hmap, fun _ => ⟨hconf.of_samePlan hplan hexit hseal, fun s1 q ht row hrow => ?_⟩⟩
  have hsp : LinePlan s s1 q := ht.of_samePlan hplan.symm hexit.symm hseal.symm
  rw [hplan.offset_eq]
  exact hrows s1 q hsp (hstates s1 q hsp) row hrow

theorem statesAt_advanceRows {s : State} {s1 : Nat} {q : Port} (hplan : LinePlan s s1 q)
    (hs : ∀ row ∈ s.rows, StatesAt s1 (s.station q).offset row) :
    ∀ row ∈ (advanceRows (countIndex s)).rows, StatesAt s1 (s.station q).offset row := by
  intro row' hrow'
  obtain ⟨row, hrow, -, htaken⟩ := mem_advanceRows_taken hrow'
  exact statesAt_rowTaken (s := countIndex s) (hplan.of_samePlan (samePlan_of_eq rfl) rfl rfl) htaken (hs row hrow)

theorem StatesAt.of_rowsCondemnedAtMost {s1 punch : Nat} {rows rows' : List Row} (h : RowsCondemnedAtMost rows rows')
    (hs : ∀ row ∈ rows, StatesAt s1 punch row) : ∀ row ∈ rows', StatesAt s1 punch row := by
  intro row' hrow' d hd
  obtain ⟨row, hrow, hkey, hfrom⟩ := h row' hrow'
  obtain ⟨c, hc, hcond⟩ := hfrom d hd
  rw [hcond.state_eq, hs row hrow c hc, show row'.offset = row.offset from congrArg (·.2.1) hkey]

theorem lineConfigured_of_pass {s : State} (pass : ∀ check ∈ startChecks s, check = true) :
    LineConfigured { s with line := .run, exitOffset := startExit s, sealOffset := lowestSeal s } := by
  simp only [startChecks, List.mem_cons, List.not_mem_nil, or_false, forall_eq_or_imp, forall_eq] at pass
  obtain ⟨h1, h2, h3, h4, h5, h6, h7, -, h9⟩ := pass
  exact ⟨h1, h2, h3, h4, h5, h6, h7, h9, rfl, rfl⟩

theorem statesFollowOffsets_effect {c : Instr} {s t : State} (h : Effect s c t) (hs : StatesFollowOffsets s) :
    StatesFollowOffsets t := by
  have hmap : MapSound t := mapSound_effect h hs.1
  have hrows (hline : t.line = s.line) (hplan : SamePlan s t) (hexit : t.exitOffset = s.exitOffset)
      (hseal : t.sealOffset = s.sealOffset) (hcond : RowsCondemnedAtMost s.rows t.rows) : StatesFollowOffsets t := by
    by_cases hidle : s.line = .idle
    · exact statesFollowOffsets_of_idle hmap (hline.trans hidle)
    · exact statesFollowOffsets_of_plan hs hidle hmap hplan hexit hseal fun _ _ _ hst => StatesAt.of_rowsCondemnedAtMost hcond hst
  have hsame (rows : List Row) : RowsCondemnedAtMost rows rows := fun row hrow => ⟨row, hrow, rfl, fun d hd => ⟨d, hd, .refl d⟩⟩
  have hloading (h : s.resetHeld = true ∨ s.load = .loading) : s.line = .idle := hs.1.1 h
  cases h with
  | masterReset | purge => exact statesFollowOffsets_of_idle hmap rfl
  | resetRelease held => exact statesFollowOffsets_of_idle hmap (hloading (.inl held))
  | signature _ loading | signatureEnds _ loading | loadEnds _ loading | loadSelects _ _ loading | loadStops _ loading =>
    exact statesFollowOffsets_of_idle hmap (hloading (.inr loading))
  | block octets type body s1 address loading good =>
    refine statesFollowOffsets_of_idle hmap ?_
    obtain ⟨a, q, e, -, rfl⟩ | ⟨id, a, -, rfl⟩ | ⟨v, rfl⟩ | ⟨a, b, c, rfl⟩ | ⟨o, rfl⟩ := loadBlock_cases good <;>
      exact hloading (.inr loading)
  | indexCounted idle | stationWrite _ _ _ _ _ _ idle => exact statesFollowOffsets_of_idle hmap idle
  | advancedInDrain drain =>
    have hline : s.line ≠ .idle := by rw [drain]; simp
    have hw : Worked (countIndex s) (advanceRows (countIndex s)) := worked_advanceRows _
    unfold drainEnd at hmap ⊢
    split
    · next hend =>
      rw [if_pos hend] at hmap
      exact statesFollowOffsets_of_idle hmap rfl
    · next hend =>
      rw [if_neg hend] at hmap
      exact statesFollowOffsets_of_plan hs hline hmap (samePlan_of_eq hw.stations_eq) hw.exitOffset_eq hw.sealOffset_eq
        fun _ _ hplan hst => statesAt_advanceRows hplan hst
  | advancedInRun id run =>
    have hline : s.line ≠ .idle := by rw [run]; simp
    have hw : Worked (countIndex s) (advanceRows (countIndex s)) := worked_advanceRows _
    obtain ⟨v, e, i, n, hformed⟩ := (formRow_eq id (advanceRows (countIndex s))).2
    rw [hformed] at hmap ⊢
    refine statesFollowOffsets_of_plan hs hline hmap (samePlan_of_eq hw.stations_eq) hw.exitOffset_eq hw.sealOffset_eq
      fun s1 q hplan hst row hrow => ?_
    obtain hrow | hrow := List.mem_append.mp hrow
    · exact statesAt_advanceRows hplan hst row hrow
    · intro c hc
      rw [List.mem_singleton.mp hrow] at hc ⊢
      obtain ⟨l, -, rfl⟩ := List.mem_map.mp hc
      exact (if_pos hplan.past).symm
  | start p tag held ready stopped pass =>
    have hconf := lineConfigured_of_pass pass
    by_cases hidle : s.line = .idle
    · refine ⟨hmap, fun _ => ⟨hconf, fun s1 q _ _ row hrow => ?_⟩⟩
      rw [show s.rows = [] from hs.1.2.1 hidle] at hrow
      cases hrow
    · obtain ⟨hold, -⟩ := hs.2 hidle
      obtain ⟨-, -, -, -, -, -, -, -, hexit, hseal⟩ := hold
      exact statesFollowOffsets_of_plan hs hidle hmap (samePlan_of_eq rfl) hexit.symm hseal.symm fun _ _ _ hst => hst
  | stopForming p tag run =>
    exact statesFollowOffsets_of_plan hs (by rw [run]; simp) hmap (samePlan_of_eq rfl) rfl rfl fun _ _ _ hst => hst
  | report c p number lane permitted check app row l card held ready kind =>
    exact hrows rfl (samePlan_of_eq rfl) rfl rfl (rowsCondemnedAtMost_report kind s row _ l s.rows)
  | condemn p tag first count mask =>
    exact hrows rfl (samePlan_of_eq rfl) rfl rfl (rowsCondemnedAtMost_condemn first count mask s.rows)
  | linkDown | stationModeSet => exact hrows rfl (samePlan_setMode s _ _) rfl rfl (hsame _)
  | _ => exact hrows rfl (samePlan_of_eq rfl) rfl rfl (hsame _)

/-- Settles O59: the judgement at S1 and the freeze at PUNCH are the only changes of state, and the row work meets each
at its offset. -/
theorem cardStatesFollowOffsets : Obligations.CardStatesFollowOffsets := fun _ _ hs h =>
  step_induction (P := StatesFollowOffsets) hs (fun _ _ h => h) (fun _ _ h hs => hs.sameButPorts h)
    (fun _ _ _ h hs => statesFollowOffsets_effect h hs) h

/-! ### The verdicts of retire records -/

/-- A card that retires on a line with its plan is FROZEN: E lies behind the PUNCH offset, or is it (R118). -/
theorem retired_frozen {s : State} {s1 : Nat} {q : Port} (hplan : LinePlan s s1 q) {row row' : Row}
    (hexit : s.exitOffset = some (row.offset + 1)) (h : RowTaken s (moved row) row')
    (hs : StatesAt s1 (s.station q).offset row) : ∀ c ∈ row'.cards, c.state = .frozen := by
  intro c hc
  have hclose : s.closeOffset q = row.offset + 1 := Option.some.inj (hplan.exit.symm.trans hexit)
  have hbefore := hplan.before
  have ho : row'.offset = row.offset + 1 := h.rowWork.offset_eq
  rw [State.closeOffset] at hclose
  rw [statesAt_rowTaken hplan h hs c hc, stateAt, ho, if_neg (by omega), if_neg (by omega)]

/-- A sound FROZEN card retires with a reason exactly when it is rejected (R118, R130). -/
theorem CardSound.retireRecord_exact {c : Card} (hs : CardSound c) (hfrozen : c.state = .frozen) (row : Row) (r : Recipe)
    (now : Word) : (Machine.retireRecord row r now c).verdict = .pass ↔ (Machine.retireRecord row r now c).reason = none := by
  refine ⟨(hs.retireRecord row r now).1, fun hnone => ?_⟩
  obtain ⟨hverdict, -, hreject, -, -, -⟩ := hs
  change c.reason = none at hnone
  change c.verdict.getD .reject = .pass
  cases hv : c.verdict with
  | none =>
    have := hverdict.mpr hfrozen
    rw [hv] at this
    cases this
  | some v =>
    cases v with
    | pass => rfl
    | reject =>
      have := hreject hv
      rw [hnone] at this
      cases this

theorem TraceVerdictsExact.sameButPorts {s t : State} (hs : TraceVerdictsExact s) (h : SameButPorts s t) :
    TraceVerdictsExact t := by
  obtain ⟨v, e, i, n, rfl⟩ := h
  exact hs

theorem traceVerdictsExact_advanceRows {s : State} (hfollow : StatesFollowOffsets s) (hsound : VerdictsSound s)
    (hs : TraceVerdictsExact s) : TraceVerdictsExact (advanceRows (countIndex s)) := by
  obtain ⟨records, hoffered, -, hrecords⟩ := recordsOffered_advanceRows (countIndex s)
  obtain ⟨joined, htrace, hjoined⟩ := hoffered.trace
  intro rec hrec
  rw [htrace] at hrec
  obtain hrec | hrec := List.mem_append.mp hrec
  · exact hs rec hrec
  · obtain ⟨row, hrow, hexit, row', htaken, c, hc, rfl⟩ := (hrecords rec (hjoined rec hrec)).exists_card
    have hline : s.line ≠ .idle := fun h => by
      rw [show (countIndex s).rows = [] from hfollow.1.2.1 h] at hrow
      cases hrow
    obtain ⟨hconf, hstates⟩ := (statesFollowOffsets_iff.mp hfollow).2 hline
    obtain ⟨s1, q, hplan⟩ := hconf.linePlan
    have hplan' : LinePlan (countIndex s) s1 q := hplan.of_samePlan (samePlan_of_eq rfl) rfl rfl
    have hcard : CardSound c :=
      htaken.rowWork.forall_cards (fun _ _ hw hc => hc.cardWork hw) (hsound.1 row hrow) c hc
    exact hcard.retireRecord_exact (retired_frozen hplan' hexit htaken (hstates s1 q hplan row hrow) c hc) _ _ _

theorem traceVerdictsExact_effect {c : Instr} {s t : State} (h : Effect s c t) (hfollow : StatesFollowOffsets s)
    (hsound : VerdictsSound s) (hs : TraceVerdictsExact s) : TraceVerdictsExact t := by
  cases h with
  | masterReset => exact fun _ hrec => absurd hrec List.not_mem_nil
  | block octets type body s1 address loading good =>
    obtain ⟨a, q, e, -, rfl⟩ | ⟨id, a, -, rfl⟩ | ⟨v, rfl⟩ | ⟨a, b, c, rfl⟩ | ⟨o, rfl⟩ := loadBlock_cases good <;> exact hs
  | advancedInDrain =>
    have hrows := traceVerdictsExact_advanceRows hfollow hsound hs
    obtain h | ⟨-, h⟩ := drainEnd_sameButPorts (countIndex s) (advanceRows (countIndex s))
    · exact hrows.sameButPorts h
    · exact TraceVerdictsExact.sameButPorts (s := { advanceRows (countIndex s) with line := .idle }) hrows h
  | advancedInRun id =>
    exact TraceVerdictsExact.sameButPorts (s := placedRow id (advanceRows (countIndex s)))
      (traceVerdictsExact_advanceRows hfollow hsound hs) (formRow_eq _ _).2
  | retireRead => exact fun rec hrec => hs rec (List.mem_of_mem_drop hrec)
  | _ => exact hs

/-- Settles O54: every piece of work keeps a card sound, and what retires on a configured line is FROZEN. -/
theorem verdictsStaySound : Obligations.VerdictsStaySound := by
  refine ⟨fun s t hs h => ?_, fun s t hfollow hsound hs h => ?_⟩
  · exact step_induction (P := VerdictsSound) hs (fun _ _ h => h) (fun _ _ h hs => hs.sameButPorts h)
      (fun _ _ _ h hs => verdictsSound_effect h hs) h
  · exact (step_induction (P := fun s => StatesFollowOffsets s ∧ VerdictsSound s ∧ TraceVerdictsExact s)
      ⟨hfollow, hsound, hs⟩ (fun _ _ h => h)
      (fun _ _ h hs => ⟨hs.1.sameButPorts h, hs.2.1.sameButPorts h, hs.2.2.sameButPorts h⟩)
      (fun _ _ _ h hs => ⟨statesFollowOffsets_effect h hs.1, verdictsSound_effect h hs.2.1,
        traceVerdictsExact_effect h hs.1 hs.2.1 hs.2.2⟩) h).2.2

end Sys2Proof.Machine

/-! ## The seal summaries and the one card that a report names -/

namespace Sys2Proof.Machine

/-! ### The card that a report names -/

/-- On a sound map a row number names one row (R19). -/
theorem MapSound.row_unique {s : State} (hs : MapSound s) {a b : Row} (ha : a ∈ s.rows) (hb : b ∈ s.rows)
    (hn : a.number = b.number) : a = b := by
  have hline : s.line ≠ .idle := fun h => by rw [hs.2.1 h] at ha; cases ha
  obtain ⟨⟨e, -, -, he63, hbelow⟩, hfalling, hnumbered⟩ := hs.rowsSound hline
  have hoffsets : (s.rows.map (·.offset)).Nodup := List.pairwise_map.mpr (hfalling.imp fun h => (Nat.ne_of_lt h).symm)
  have hsum : BitVec.ofNat 32 a.offset = BitVec.ofNat 32 b.offset := by
    have := (hnumbered a ha).trans (hnumbered b hb).symm
    rw [hn] at this
    exact add_left_cancel this
  have ha' := hbelow a ha
  have hb' := hbelow b hb
  have := congrArg BitVec.toNat hsum
  simp only [BitVec.toNat_ofNat] at this
  exact List.inj_on_of_nodup_map hoffsets ha hb (by omega)

theorem Row.card_unique {row : Row} (hs : (row.cards.map (·.lane)).Nodup) {l : Fin 4} {c d : Card} (hc : row.card l = some c)
    (hd : d ∈ row.cards) (hl : d.lane = l) : d = c := by
  obtain ⟨hlane, hmem⟩ : c.lane = l ∧ c ∈ row.cards := ⟨by simpa using List.find?_some hc, List.mem_of_find?_eq_some hc⟩
  exact List.inj_on_of_nodup_map hs hd hmem (hl.trans hlane.symm)

/-- After an admitted report, a row is as before, but for the one card the report names, which stands in the row that it
names. -/
theorem mem_updateCard_admitted {permitted : Role → Bool} {p : Port} {number : Word} {s : State} {row : Row} {l : Fin 4}
    {card : Card} {f : Card → Card} (hmap : MapSound s) (hlanes : OneCardPerLane s)
    (admitted : screenReport permitted p number s = .ok row) (found : row.card l = some card) {x' : Row}
    (hx' : x' ∈ updateCard number l f s.rows) :
    ∃ x ∈ s.rows, rowKey x' = rowKey x ∧ x'.cards.map (·.lane) = x.cards.map (fun c => if x = row ∧ c.lane = l then (f c).lane else c.lane) ∧
      ∀ d ∈ x'.cards, ∃ c ∈ x.cards, d = c ∨ x = row ∧ c = card ∧ d = f c := by
  obtain ⟨-, -, hfind, -, -⟩ := screenReport_ok admitted
  obtain ⟨hrow, hnumber⟩ : row ∈ s.rows ∧ row.number = number :=
    ⟨List.mem_of_find?_eq_some hfind, by simpa using List.find?_some hfind⟩
  obtain ⟨x, hx, hkey, hcards⟩ := mem_updateCard hx'
  have hsame : x.number = number ↔ x = row :=
    ⟨fun h => hmap.row_unique hx hrow (h.trans hnumber.symm), fun h => h ▸ hnumber⟩
  simp only [hsame] at hcards
  refine ⟨x, hx, hkey, ?_, fun d hd => ?_⟩
  · rw [hcards, List.map_map]
    refine List.map_congr_left fun c _ => ?_
    simp only [Function.comp_apply]
    split <;> rfl
  · rw [hcards] at hd
    obtain ⟨c, hc, rfl⟩ := List.mem_map.mp hd
    refine ⟨c, hc, ?_⟩
    split
    · next h =>
      obtain ⟨rfl, hl⟩ := h
      exact .inr ⟨rfl, Row.card_unique (hlanes x hx) found hc hl, rfl⟩
    · exact .inl rfl

/-! ### The seal record of a card -/

/-- What SEAL_HIT alone changes of a card, beside its lane (R102 to R110). -/
def sealKey (c : Card) : Fin 4 × Nat × Nat × Bool × Option Nat × PerPort Nat :=
  (c.lane, c.summary.hits, c.summary.dose, c.summary.saturated, c.summary.minPressure, c.tallies)

theorem sealKey_condemn (c : Card) (x : Reason) (p : Option Port) (o : Nat) : sealKey (c.condemn x p o) = sealKey c := by
  unfold Card.condemn
  split <;> rfl

theorem SealSound.of_sealKey {c d : Card} (hs : SealSound c) (h : sealKey d = sealKey c) : SealSound d := by
  simp only [sealKey, Prod.mk.injEq] at h
  obtain ⟨-, h1, h2, h3, h4, h5⟩ := h
  unfold SealSound at hs ⊢
  rwa [h1, h2, h3, h4, h5]

/-- What a window's close leaves of a card: its lane, summary, tallies and reported set (R39 to R45). -/
theorem closeWork_frame (s : State) (p : Port) (r : Recipe) (o : Nat) (c : Card) :
    (closeWork s p r o c).lane = c.lane ∧ (closeWork s p r o c).summary = c.summary ∧
      (closeWork s p r o c).tallies = c.tallies ∧ (closeWork s p r o c).reported = c.reported := by
  have hcondemn (x : Reason) : (c.condemn x (some p) o).lane = c.lane ∧ (c.condemn x (some p) o).summary = c.summary ∧
      (c.condemn x (some p) o).tallies = c.tallies ∧ (c.condemn x (some p) o).reported = c.reported := by simp
  unfold closeWork
  split
  case h_1 => split; exacts [⟨rfl, rfl, rfl, rfl⟩, hcondemn _]
  case h_2 => unfold closeFeed; simp only; split; exacts [by simp, ⟨rfl, rfl, rfl, rfl⟩]
  case h_3 => split; exacts [hcondemn _, ⟨rfl, rfl, rfl, rfl⟩]
  case h_4 => exact ⟨rfl, rfl, rfl, rfl⟩
  case h_5 => split; exacts [⟨rfl, rfl, rfl, rfl⟩, hcondemn _]
  case h_6 => split; exacts [⟨rfl, rfl, rfl, rfl⟩, ⟨rfl, rfl, rfl, rfl⟩]
  case h_7 | h_8 => exact ⟨rfl, rfl, rfl, rfl⟩

theorem closeCard_frame (s : State) (p : Port) (r : Recipe) (o : Nat) (c : Card) :
    (closeCard s p r o c).lane = c.lane ∧ (closeCard s p r o c).summary = c.summary ∧
      (closeCard s p r o c).tallies = c.tallies ∧ (closeCard s p r o c).reported = c.reported.set p false := by
  obtain ⟨h1, h2, h3, h4⟩ := closeWork_frame s p r o c
  unfold closeCard
  simp only
  split
  · exact ⟨h1, h2, h3, by rw [h4]⟩
  · exact ⟨rfl, rfl, rfl, rfl⟩

/-- The judgement pass leaves a card's lane, summary, tallies, reported set and cavities (R95 to R97). -/
theorem judgeCard_frame (r : Recipe) (o : Nat) (c : Card) :
    (judgeCard r o c).lane = c.lane ∧ (judgeCard r o c).summary = c.summary ∧ (judgeCard r o c).tallies = c.tallies ∧
      (judgeCard r o c).reported = c.reported ∧ (judgeCard r o c).cavities = c.cavities := by
  have hmarked (d : Card) (hd : d.lane = c.lane ∧ d.summary = c.summary ∧ d.tallies = c.tallies ∧ d.reported = c.reported ∧
      d.cavities = c.cavities) : let e := if d.state = .opened then { d with state := CardState.judged } else d
      e.lane = c.lane ∧ e.summary = c.summary ∧ e.tallies = c.tallies ∧ e.reported = c.reported ∧ e.cavities = c.cavities := by
    dsimp only
    split <;> exact hd
  refine hmarked _ ?_
  split
  · simp
  · exact ⟨rfl, rfl, rfl, rfl, rfl⟩

/-- The freeze leaves a card's lane, summary, tallies, reported set and cavities (R117, R118). -/
theorem freezeCard_frame (r : Recipe) (o : Nat) (c : Card) :
    (freezeCard r o c).lane = c.lane ∧ (freezeCard r o c).summary = c.summary ∧ (freezeCard r o c).tallies = c.tallies ∧
      (freezeCard r o c).reported = c.reported ∧ (freezeCard r o c).cavities = c.cavities := by
  unfold freezeCard
  simp only
  split
  · simp
  · exact ⟨rfl, rfl, rfl, rfl, rfl⟩

/-- No work of an advance changes a card's lane or its seal record (section 6.2). -/
theorem CardWork.sealKey_eq {s : State} {row : Row} {c d : Card} (h : CardWork s row c d) : sealKey d = sealKey c := by
  cases h with
  | close p =>
    obtain ⟨h1, h2, h3, -⟩ := closeCard_frame s p (s.recipe row.recipe) row.offset c
    rw [sealKey, h1, h2, h3]; rfl
  | order => unfold orderCard; split <;> rfl
  | judge =>
    obtain ⟨h1, h2, h3, -, -⟩ := judgeCard_frame (s.recipe row.recipe) row.offset c
    rw [sealKey, h1, h2, h3]; rfl
  | inhibit => unfold inhibitCard; split <;> rfl
  | freeze =>
    obtain ⟨h1, h2, h3, -, -⟩ := freezeCard_frame (s.recipe row.recipe) row.offset c
    rw [sealKey, h1, h2, h3]; rfl

theorem CardWorked.sealKey_eq {s : State} {row : Row} {c d : Card} (h : CardWorked s row c d) : sealKey d = sealKey c := by
  induction h with
  | refl => rfl
  | tail _ hw ih => exact hw.sealKey_eq.trans ih

/-- A strike changes the tally of its port by one, and keeps the lane. -/
theorem applySealHit_frame (p : Port) (o : Nat) (r : Recipe) (sealed : Bool) (t w q : Nat) (c : Card) :
    (applySealHit p o r sealed t w q c).lane = c.lane ∧
      (applySealHit p o r sealed t w q c).tallies = c.tallies.set p (c.tallies.get p + 1) ∧
      (applySealHit p o r sealed t w q c).reported = c.reported ∧ (applySealHit p o r sealed t w q c).cavities = c.cavities := by
  unfold applySealHit
  simp only
  split
  · split
    · simp
    · exact ⟨rfl, rfl, rfl, rfl⟩
  · exact ⟨rfl, rfl, rfl, rfl⟩

/-- A strike that is not a sealed hit leaves the hits, the dose and the minimum pressure (R105). -/
theorem applySealHit_unsealed_summary (p : Port) (o : Nat) (r : Recipe) (t w q : Nat) (c : Card) :
    ∃ clamped, (applySealHit p o r false t w q c).summary = { c.summary with clamped := clamped } := ⟨_, rfl⟩

/-- The strikes of a card, over all ports. -/
def strikes (c : Card) : Nat := (Port.all.map c.tallies.get).sum

theorem sum_get_set (v : PerPort Nat) (p : Port) (n : Nat) :
    (Port.all.map (v.set p n).get).sum + v.get p = (Port.all.map v.get).sum + n := by
  cases p <;> simp [Port.all, PerPort.set, PerPort.get] <;> omega

/-- A strike that passes its checks keeps the limits of the seal record (R80, R102, R106, R109, R110). -/
theorem SealSound.applySealHit {c : Card} (hs : SealSound c) {p : Port} (hp : c.tallies.get p < Config.strikeLimit)
    (o : Nat) (r : Recipe) (sealed : Bool) (t w q : Nat) : SealSound (applySealHit p o r sealed t w q c) := by
  obtain ⟨hdose, hsat, htally, hhits, hpressure⟩ := hs
  obtain ⟨-, htallies, -, -⟩ := applySealHit_frame p o r sealed t w q c
  have hsum : (Port.all.map (c.tallies.set p (c.tallies.get p + 1)).get).sum = (Port.all.map c.tallies.get).sum + 1 := by
    have := sum_get_set c.tallies p (c.tallies.get p + 1)
    omega
  have htally' (x : Port) : (c.tallies.set p (c.tallies.get p + 1)).get x ≤ Config.strikeLimit := by
    rw [PerPort.get_set]
    split
    · exact hp
    · exact htally x
  cases sealed with
  | false =>
    obtain ⟨clamped, hsummary⟩ := applySealHit_unsealed_summary p o r t w q c
    unfold SealSound
    rw [hsummary, htallies, hsum]
    exact ⟨hdose, hsat, htally', Nat.le_succ_of_le hhits, hpressure⟩
  | true =>
    obtain ⟨clamped, hsummary⟩ := applySealHit_summary p o r t w q c
    obtain ⟨m, hm, hle⟩ := minPressureAfter_le c.summary.minPressure (min 1000 q)
    unfold SealSound
    rw [hsummary, htallies, hsum, Seal.addDose_dose, Seal.addDose_saturated, Seal.addDose_hits, Seal.addDose_minPressure]
    refine ⟨Nat.min_le_left _ _, fun h => ?_, htally', Nat.succ_le_succ hhits, fun x hx => ?_⟩
    all_goals dsimp only at *
    · obtain h | h := (Bool.or_eq_true _ _).mp h
      · rw [hsat h]
        omega
      · exact Nat.min_eq_left (of_decide_eq_true h).le
    · rw [Option.mem_def, hm, Option.some.injEq] at hx
      omega

/-- Only SEAL_HIT changes a seal record, and it changes that of a card whose tally is below the limit. -/
theorem report_sealKey {c : Instr} {p : Port} {number : Word} {lane : Octet} {permitted : Role → Bool}
    {check : Row → Recipe → Card → Option Code} {app : State → Row → Recipe → Card → Card}
    (kind : ReportOf c p number lane permitted check app) (s : State) (row : Row) (r : Recipe) (x : Card)
    (valid : check row r x = none) :
    sealKey (app s row r (joinReported p x)) = sealKey x ∨
      permitted = (· == .seal) ∧ x.tallies.get p < Config.strikeLimit ∧ ∃ sealed t w q,
        app s row r (joinReported p x) = applySealHit p row.offset r sealed t w q (joinReported p x) := by
  cases kind with
  | formResult =>
    refine .inl ?_
    unfold applyForm
    simp only
    split
    · exact sealKey_condemn _ _ _ _
    · split
      · exact sealKey_condemn _ _ _ _
      · rfl
  | placement => exact .inl rfl
  | inspection =>
    refine .inl ?_
    unfold applyInspection
    simp only
    split
    · exact sealKey_condemn _ _ _ _
    · rfl
  | sealHit =>
    refine .inr ⟨rfl, ?_, _, _, _, _, rfl⟩
    unfold checkSealHit at valid
    split at valid
    · cases valid
    · dsimp only at valid
      split at valid
      · cases valid
      · next h => exact Nat.lt_of_not_le h
  | discharge => exact .inl rfl

theorem report_lane {c : Instr} {p : Port} {number : Word} {lane : Octet} {permitted : Role → Bool}
    {check : Row → Recipe → Card → Option Code} {app : State → Row → Recipe → Card → Card}
    (kind : ReportOf c p number lane permitted check app) (s : State) (row : Row) (r : Recipe) (x : Card) :
    (app s row r (joinReported p x)).lane = x.lane := (condemnedAtMost_report kind s row r x).lane_eq

/-! ### One card per lane -/

/-- The lanes of a row's cards, which no command changes. -/
def lanesHeld (row : Row) : List (Fin 4) := row.cards.map (·.lane)

theorem RowWork.lanesHeld_eq {s : State} {row row' : Row} (h : RowWork s row row') : lanesHeld row' = lanesHeld row := by
  obtain ⟨f, rfl, hf⟩ := h
  simp only [lanesHeld, List.map_map]
  exact List.map_congr_left fun c _ => congrArg (·.1) (hf c).sealKey_eq

theorem lanesHeld_condemnRow (mask : Octet) (row : Row) : lanesHeld (condemnRow mask row) = lanesHeld row := by
  simp only [lanesHeld, condemnRow, List.map_map]
  refine List.map_congr_left fun c _ => ?_
  simp only [Function.comp_apply]
  split
  · exact Card.condemn_lane _ _ _ _
  · rfl

theorem lanesHeld_formedRow (n : Word) (id : RecipeId) (r : Recipe) (t : Word) :
    lanesHeld (formedRow n id r t) = lanesOf r.laneMask := by
  simp [lanesHeld, formedRow, Card.fresh, Function.comp_def]

theorem nodup_lanesOf (mask : BitVec 4) : (lanesOf mask).Nodup := List.Nodup.filter _ (by decide)

/-- After a report or a CONDEMN the rows hold the lanes they held. -/
theorem lanesHeld_updateCard {number : Word} {l : Fin 4} {f : Card → Card} (hf : ∀ c, (f c).lane = c.lane) {rows : List Row}
    {row' : Row} (h : row' ∈ updateCard number l f rows) :
    ∃ row ∈ rows, rowKey row' = rowKey row ∧ lanesHeld row' = lanesHeld row := by
  obtain ⟨row, hrow, hkey, hcards⟩ := mem_updateCard h
  refine ⟨row, hrow, hkey, ?_⟩
  rw [lanesHeld, hcards, List.map_map]
  refine List.map_congr_left fun c _ => ?_
  simp only [Function.comp_apply]
  split
  · exact hf c
  · rfl

theorem lanesHeld_condemned {first : Word} {count mask : Octet} {rows : List Row} {row' : Row}
    (h : row' ∈ rows.map fun r => if inRowRange first count.toNat r.number then condemnRow mask r else r) :
    ∃ row ∈ rows, lanesHeld row' = lanesHeld row := by
  obtain ⟨row, hrow, rfl⟩ := List.mem_map.mp h
  refine ⟨row, hrow, ?_⟩
  split
  · exact lanesHeld_condemnRow mask row
  · rfl

theorem oneCardPerLane_effect {c : Instr} {s t : State} (h : Effect s c t) (hs : OneCardPerLane s) : OneCardPerLane t := by
  have hrows : ∀ row ∈ (advanceRows (countIndex s)).rows, (lanesHeld row).Nodup := fun row' hrow' => by
    obtain ⟨row, hrow, -, hwork⟩ := mem_advanceRows hrow'
    rw [hwork.lanesHeld_eq]
    exact hs row hrow
  cases h with
  | masterReset | purge => exact fun _ hrow => absurd hrow List.not_mem_nil
  | block octets type body s1 address loading good =>
    obtain ⟨a, q, e, -, rfl⟩ | ⟨id, a, -, rfl⟩ | ⟨v, rfl⟩ | ⟨a, b, c, rfl⟩ | ⟨o, rfl⟩ := loadBlock_cases good <;> exact hs
  | advancedInDrain =>
    obtain ⟨v, e, i, n, h⟩ | ⟨-, v, e, i, n, h⟩ := drainEnd_sameButPorts (countIndex s) (advanceRows (countIndex s)) <;>
      exact h ▸ hrows
  | advancedInRun id =>
    obtain ⟨v, e, i, n, h⟩ := (formRow_eq id (advanceRows (countIndex s))).2
    rw [h]
    intro row hrow
    obtain hrow | hrow := List.mem_append.mp hrow
    · exact hrows row hrow
    · rw [List.mem_singleton.mp hrow]
      change (lanesHeld _).Nodup
      rw [lanesHeld_formedRow]
      exact nodup_lanesOf _
  | report c p number lane permitted check app row l card held ready kind =>
    intro x' hx'
    obtain ⟨x, hx, -, hlanes⟩ := lanesHeld_updateCard (fun c => report_lane kind s row _ c) hx'
    change (lanesHeld x').Nodup
    rw [hlanes]
    exact hs x hx
  | condemn =>
    intro x' hx'
    obtain ⟨x, hx, hlanes⟩ := lanesHeld_condemned hx'
    change (lanesHeld x').Nodup
    rw [hlanes]
    exact hs x hx
  | _ => exact hs

/-! ### Seal records within their limits -/

/-- A card's seal record within its limits, with strikes of SEAL stations alone. -/
def SealHeld (s : State) (c : Card) : Prop := SealSound c ∧ ∀ p, (s.station p).role ≠ .seal → c.tallies.get p = 0

theorem SealHeld.of_sealKey {s t : State} {c d : Card} (hs : SealHeld s c) (hplan : SamePlan s t) (h : sealKey d = sealKey c) :
    SealHeld t d := by
  refine ⟨hs.1.of_sealKey h, fun p hp => ?_⟩
  rw [show d.tallies = c.tallies from congrArg (·.2.2.2.2.2) h]
  exact hs.2 p (by rwa [hplan.role_eq] at hp)

theorem sealHeld_fresh (s : State) (l : Fin 4) (n : Nat) : SealHeld s (Card.fresh l n) := by
  refine ⟨⟨by simp [Card.fresh], by simp [Card.fresh], fun p => by simp [Card.fresh], by simp [Card.fresh], by simp [Card.fresh]⟩,
    fun p _ => by simp [Card.fresh]⟩

theorem SealHeld.report {s : State} {x : Card} (hs : SealHeld s x) {c : Instr} {p : Port} {number : Word} {lane : Octet}
    {permitted : Role → Bool} {check : Row → Recipe → Card → Option Code} {app : State → Row → Recipe → Card → Card}
    (kind : ReportOf c p number lane permitted check app) (row : Row) (r : Recipe) (valid : check row r x = none)
    (hrole : permitted (s.station p).role = true) : SealHeld s (app s row r (joinReported p x)) := by
  obtain h | ⟨hseal, htally, sealed, t, w, q, h⟩ := report_sealKey kind s row r x valid
  · exact hs.of_sealKey (samePlan_of_eq rfl) h
  · rw [h]
    have hjoined : SealSound (joinReported p x) := hs.1.of_sealKey rfl
    refine ⟨hjoined.applySealHit htally _ _ _ _ _ _, fun y hy => ?_⟩
    obtain ⟨-, htallies, -, -⟩ := applySealHit_frame p row.offset r sealed t w q (joinReported p x)
    have hne : y ≠ p := by
      rintro rfl
      rw [hseal] at hrole
      exact hy (by simpa using hrole)
    rw [htallies, PerPort.get_set_of_ne _ _ hne]
    exact hs.2 y hy

theorem SealsBounded.sameButPorts {s t : State} (hs : SealsBounded s) (h : SameButPorts s t) : SealsBounded t := by
  obtain ⟨v, e, i, n, rfl⟩ := h
  exact hs

theorem sealHeld_advanceRows {s : State} (hs : SealsBounded s) :
    ∀ row ∈ (advanceRows (countIndex s)).rows, ∀ c ∈ row.cards, SealHeld (advanceRows (countIndex s)) c := by
  have hplan : SamePlan s (advanceRows (countIndex s)) := samePlan_of_eq (worked_advanceRows _).stations_eq
  intro row' hrow' d hd
  obtain ⟨row, hrow, -, f, rfl, hf⟩ := mem_advanceRows hrow'
  obtain ⟨c, hc, rfl⟩ := List.mem_map.mp hd
  exact (show SealHeld s c from hs.2 row hrow c hc).of_sealKey hplan (hf c).sealKey_eq

theorem sealsBounded_effect {c : Instr} {s t : State} (h : Effect s c t) (hmap : MapSound s) (hs : SealsBounded s) :
    SealsBounded t := by
  refine ⟨oneCardPerLane_effect h hs.1, ?_⟩
  have hempty (h : s.line = .idle) (u : State) (hu : u.rows = s.rows) : ∀ row ∈ u.rows, ∀ c ∈ row.cards, SealHeld u c := by
    rw [hu, hmap.2.1 h]
    exact fun _ hrow => absurd hrow List.not_mem_nil
  have hrows := sealHeld_advanceRows hs
  have hsame (u : State) (hu : u.rows = s.rows) (hplan : SamePlan s u) : ∀ row ∈ u.rows, ∀ c ∈ row.cards, SealHeld u c :=
    fun row hrow c hc => SealHeld.of_sealKey (s := s) (hs.2 row (hu ▸ hrow) c hc) hplan rfl
  cases h with
  | masterReset | purge => exact fun _ hrow => absurd hrow List.not_mem_nil
  | block octets type body s1 address loading good =>
    obtain ⟨a, q, e, -, rfl⟩ | ⟨id, a, -, rfl⟩ | ⟨v, rfl⟩ | ⟨a, b, c, rfl⟩ | ⟨o, rfl⟩ := loadBlock_cases good <;>
      exact hempty (hmap.1 (.inr loading)) _ rfl
  | loadStops _ loading => exact hempty (hmap.1 (.inr loading)) _ rfl
  | stationWrite _ _ _ _ _ _ idle => exact hempty idle _ rfl
  | advancedInDrain =>
    obtain ⟨v, e, i, n, h⟩ | ⟨-, v, e, i, n, h⟩ := drainEnd_sameButPorts (countIndex s) (advanceRows (countIndex s)) <;>
      exact h ▸ hrows
  | advancedInRun id =>
    obtain ⟨v, e, i, n, h⟩ := (formRow_eq id (advanceRows (countIndex s))).2
    rw [h]
    intro row hrow c hc
    obtain hrow | hrow := List.mem_append.mp hrow
    · exact hrows row hrow c hc
    · rw [List.mem_singleton.mp hrow] at hc
      obtain ⟨l, -, rfl⟩ := List.mem_map.mp hc
      exact sealHeld_fresh _ _ _
  | report c p number lane permitted check app row l card held ready kind admitted inRow found valid =>
    intro x' hx' d hd
    obtain ⟨x, hx, -, -, hcards⟩ := mem_updateCard_admitted hmap hs.1 admitted found hx'
    obtain ⟨y, hy, h | ⟨-, hcard, h⟩⟩ := hcards d hd
    · exact SealHeld.of_sealKey (s := s) (hs.2 x hx y hy) (samePlan_of_eq rfl) (by rw [h])
    · obtain ⟨hrole, -, -, -, -⟩ := screenReport_ok admitted
      rw [h]
      exact SealHeld.report (hs.2 x hx y hy) kind row _ (hcard ▸ valid) hrole
  | condemn =>
    intro x' hx' d hd
    obtain ⟨x, hx, -, f, hcards, hf⟩ := mem_condemned hx'
    rw [hcards] at hd
    obtain ⟨y, hy, rfl⟩ := List.mem_map.mp hd
    refine SealHeld.of_sealKey (s := s) (hs.2 x hx y hy) (samePlan_of_eq rfl) ?_
    obtain h | h := hf y <;> rw [h]
    exact sealKey_condemn _ _ _ _
  | linkDown | stationModeSet => exact hsame _ rfl (samePlan_setMode s _ _)
  | _ => exact hsame _ rfl (samePlan_of_eq rfl)

/-! ### At most eight hits -/

/-- Strikes of SEAL stations alone, each within the strike limit, are at most the limit for each SEAL station. -/
theorem strikes_le {s : State} {c : Card} (hs : SealHeld s c) :
    strikes c ≤ Config.strikeLimit * (s.portsWith .seal).length := by
  obtain ⟨⟨-, -, htally, -, -⟩, hseal⟩ := hs
  unfold strikes State.portsWith
  induction Port.all with
  | nil => simp
  | cons p l ih =>
    rw [List.map_cons, List.sum_cons, List.filter_cons]
    split
    · have := htally p
      rw [List.length_cons, Nat.mul_succ]
      omega
    · next h => rw [hseal p (by simpa using h), Nat.zero_add]; exact ih

/-- Settles O55: only SEAL_HIT changes a seal record, on the one card it names, and with at most two SEAL stations of four
strikes each no card is hit more than eight times. -/
theorem sealsStayBounded : Obligations.SealsStayBounded := by
  refine ⟨fun s t hmap hs h => ?_, fun s hfollow hs row hrow c hc => ?_⟩
  · exact (step_induction (P := fun s => MapSound s ∧ SealsBounded s) ⟨hmap, hs⟩ (fun _ _ h => h)
      (fun _ _ h hs => ⟨hs.1.sameButPorts h, hs.2.sameButPorts h⟩)
      (fun _ _ _ h hs => ⟨mapSound_effect h hs.1, sealsBounded_effect h hs.1 hs.2⟩) h).2
  · have hline : s.line ≠ .idle := fun h => by rw [hfollow.1.2.1 h] at hrow; cases hrow
    obtain ⟨⟨-, -, h3, -⟩, -⟩ := hfollow.2 hline
    have hheld : SealHeld s c := hs.2 row hrow c hc
    have hhits : c.summary.hits ≤ strikes c := hheld.1.2.2.2.1
    have hstrikes := strikes_le hheld
    have hports : (s.portsWith .seal).length ≤ 2 := by
      simp only [startCheck3, Bool.or_eq_true, beq_iff_eq] at h3
      omega
    simp only [Config.strikeLimit] at hstrikes
    omega

end Sys2Proof.Machine

/-! ## The cavity records and the reported sets -/

namespace Sys2Proof.Machine

/-! ### The cavities after the walks of the card operations -/

theorem mem_mapSpec {f : CavitySpec → Cavity → Cavity} {specs : List CavitySpec} {cavs : List Cavity} {x : Cavity}
    (h : x ∈ mapSpec f specs cavs) : ∃ cav ∈ cavs, x = cav ∨ ∃ spec, x = f spec cav := by
  obtain ⟨i, hi⟩ := List.mem_iff_getElem?.mp h
  rw [getElem?_mapSpec] at hi
  split at hi
  · next spec cav hspec hcav =>
    exact ⟨cav, List.mem_of_getElem? hcav, .inr ⟨spec, (Option.some.inj hi).symm⟩⟩
  · exact ⟨x, List.mem_of_getElem? hi, .inl rfl⟩

theorem mem_setForms {l : List FormOutcome} {cavs : List Cavity} {x : Cavity} (h : x ∈ setForms l cavs) :
    ∃ cav ∈ cavs, ∃ form, x = { cav with form := form } := by
  obtain ⟨i, hi⟩ := List.mem_iff_getElem?.mp h
  rw [getElem?_setForms] at hi
  split at hi
  · next f cav hf hcav => exact ⟨cav, List.mem_of_getElem? hcav, some f, (Option.some.inj hi).symm⟩
  · exact ⟨x, List.mem_of_getElem? hi, x.form, rfl⟩

theorem mem_mapFrom {α : Type} {f : Nat → α → α} {k : Nat} {l : List α} {x : α} (h : x ∈ mapFrom f k l) :
    ∃ i, ∃ a ∈ l, x = f i a := by
  obtain ⟨i, hi⟩ := List.mem_iff_getElem?.mp h
  rw [getElem?_mapFrom] at hi
  obtain ⟨a, ha, rfl⟩ := Option.map_eq_some_iff.mp hi
  exact ⟨k + i, a, List.mem_of_getElem? ha, rfl⟩

theorem length_inspectFrom (stations : PerPort Station) (p : Port) (entries : List InspectEntry) (k : Nat)
    (specs : List CavitySpec) (cavs : List Cavity) :
    (inspectFrom stations p entries k specs cavs).1.length = cavs.length := by
  induction specs generalizing k cavs with
  | nil => simp [inspectFrom]
  | cons spec specs ih =>
    cases cavs with
    | nil => simp [inspectFrom]
    | cons c cs =>
      unfold inspectFrom
      dsimp only
      split <;> simp [ih]

theorem mem_inspectFrom {stations : PerPort Station} {p : Port} {entries : List InspectEntry} {k : Nat}
    {specs : List CavitySpec} {cavs : List Cavity} {x : Cavity} (h : x ∈ (inspectFrom stations p entries k specs cavs).1) :
    ∃ cav ∈ cavs, x = cav ∨ ∃ spec, ∃ e ∈ entries, x = (inspectInto stations p spec e cav).1 := by
  induction specs generalizing k cavs with
  | nil => exact ⟨x, by simpa [inspectFrom] using h, .inl rfl⟩
  | cons spec specs ih =>
    cases cavs with
    | nil => simp [inspectFrom] at h
    | cons c cs =>
      have hrest (h : x ∈ (inspectFrom stations p entries (k + 1) specs cs).1) :
          ∃ cav ∈ c :: cs, x = cav ∨ ∃ spec, ∃ e ∈ entries, x = (inspectInto stations p spec e cav).1 := by
        obtain ⟨cav, hcav, hx⟩ := ih h
        exact ⟨cav, List.mem_cons_of_mem _ hcav, hx⟩
      unfold inspectFrom at h
      dsimp only at h
      split at h
      · next e he =>
        obtain rfl | h := List.mem_cons.mp h
        · exact ⟨c, List.mem_cons_self, .inr ⟨spec, e, List.mem_of_find?_eq_some he, rfl⟩⟩
        · exact hrest h
      · obtain rfl | h := List.mem_cons.mp h
        · exact ⟨_, List.mem_cons_self, .inl rfl⟩
        · exact hrest h

/-! ### Sound cavity records -/

/-- The effective count reads of the station table only the offsets. -/
theorem effectiveCount_congr {st st' : PerPort Station} (h : ∀ p, (st'.get p).offset = (st.get p).offset)
    (i : Option Inspection) (l : List Placement) : effectiveCount st' i l = effectiveCount st i l := by
  simp only [effectiveCount, h]

theorem CavitySound.of_samePlan {s t : State} {r : Recipe} {cav : Cavity} (hs : CavitySound s r cav) (h : SamePlan s t) :
    CavitySound t r cav := by
  obtain ⟨h1, h2, h3, h4, h5⟩ := hs
  refine ⟨h1.trans (effectiveCount_congr h.offset_eq _ _).symm, h2, fun e he => ?_, fun i hi => ?_, h5⟩
  · rw [h.role_eq]; exact h3 e he
  · rw [h.role_eq]; exact h4 i hi

/-- What a recount makes of evidence within its ranges. -/
theorem cavitySound_recount {s : State} {r : Recipe} {cav : Cavity} (hnodup : (cav.placements.map (·.station)).Nodup)
    (hplaced : ∀ e ∈ cav.placements,
      ((s.station e.station).role = .feed ∨ (s.station e.station).role = .topup) ∧ e.count ≤ 15)
    (hseen : ∀ i ∈ cav.inspection, (s.station i.station).role = .inspect ∧ i.classSeen ≤ 63 ∧ i.count ≤ 15)
    (hattempts : cav.attempts ≤ r.refillLimit) : CavitySound s r (cav.recount s.stations) :=
  ⟨rfl, hnodup, hplaced, hseen, hattempts⟩

/-- The count-0 entry of a FEED station that owes one (R41). -/
theorem CavitySound.owed {s : State} {r : Recipe} {cav : Cavity} (hs : CavitySound s r cav) {p : Port} {spec : CavitySpec}
    (hrole : (s.station p).role = .feed) (howes : owesEntry p spec cav = true) :
    CavitySound s r (Cavity.recount s.stations { cav with placements := cav.placements ++ [⟨p, 0⟩] }) := by
  obtain ⟨-, hnodup, hplaced, hseen, hattempts⟩ := hs
  have hfresh : p ∉ cav.placements.map (·.station) := by
    simp only [owesEntry, Bool.and_eq_true, Bool.not_eq_true', List.any_eq_false, decide_eq_true_iff] at howes
    intro hp
    obtain ⟨e, he, hep⟩ := List.mem_map.mp hp
    exact howes.2 e he hep
  refine cavitySound_recount ?_ (fun e he => ?_) hseen hattempts
  · rw [List.map_append, List.map_singleton, List.nodup_append]
    exact ⟨hnodup, List.nodup_singleton _, fun a ha b hb hab => hfresh (by rw [hab, List.mem_singleton.mp hb] at ha; exact ha)⟩
  · obtain he | he := List.mem_append.mp he
    · exact hplaced e he
    · rw [List.mem_singleton.mp he]
      exact ⟨.inl hrole, Nat.zero_le _⟩

theorem writeEntry_stations (p : Port) (n : Nat) (l : List Placement) :
    (writeEntry p n l).map (·.station) = if p ∈ l.map (·.station) then l.map (·.station) else l.map (·.station) ++ [p] := by
  have hany : (l.any fun e => e.station = p) = true ↔ p ∈ l.map (·.station) := by simp
  unfold writeEntry
  by_cases h : p ∈ l.map (·.station)
  · rw [if_pos (hany.mpr h), if_pos h, List.map_map]
    refine List.map_congr_left fun e _ => ?_
    simp only [Function.comp_apply]
    split
    · next he => exact he.symm
    · rfl
  · rw [if_neg (fun k => h (hany.mp k)), if_neg h, List.map_append, List.map_singleton]

theorem mem_writeEntry {p : Port} {n : Nat} {l : List Placement} {e : Placement} (h : e ∈ writeEntry p n l) :
    e ∈ l ∨ e = ⟨p, n⟩ := by
  unfold writeEntry at h
  split at h
  · obtain ⟨x, hx, rfl⟩ := List.mem_map.mp h
    split
    · exact .inr rfl
    · exact .inl hx
  · obtain h | h := List.mem_append.mp h
    · exact .inl h
    · exact .inr (List.mem_singleton.mp h)

/-- A placement of a FEED or TOPUP station (R71, R73). -/
theorem CavitySound.placeInto {s : State} {r : Recipe} {cav : Cavity} (hs : CavitySound s r cav) {p : Port} {n : Nat}
    (hrole : (s.station p).role = .feed ∨ (s.station p).role = .topup) (hn : n ≤ 15) :
    CavitySound s r (placeInto s.stations p n cav) := by
  obtain ⟨-, hnodup, hplaced, hseen, hattempts⟩ := hs
  have hrecount : CavitySound s r
      (Cavity.recount s.stations { cav with placements := writeEntry p n cav.placements }) := by
    refine cavitySound_recount ?_ (fun e he => ?_) hseen hattempts
    · rw [writeEntry_stations]
      split
      · exact hnodup
      · next hp =>
        rw [List.nodup_append]
        exact ⟨hnodup, List.nodup_singleton _, fun a ha b hb hab => hp (by rw [hab, List.mem_singleton.mp hb] at ha; exact ha)⟩
    · obtain he | rfl := mem_writeEntry he
      · exact hplaced e he
      · exact ⟨hrole, hn⟩
  unfold Machine.placeInto
  dsimp only
  split
  · exact hrecount
  · exact hrecount

/-- An inspection entry of an INSPECT station (R75, R76). -/
theorem CavitySound.inspectInto {s : State} {r : Recipe} {cav : Cavity} (hs : CavitySound s r cav) {p : Port}
    {spec : CavitySpec} {e : InspectEntry} (hrole : (s.station p).role = .inspect) (he : e.classSeen.toNat ≤ 63) :
    CavitySound s r (inspectInto s.stations p spec e cav).1 := by
  obtain ⟨-, hnodup, hplaced, -, hattempts⟩ := id hs
  unfold Machine.inspectInto
  split
  · exact hs
  · refine cavitySound_recount hnodup hplaced (fun i hi => ?_) hattempts
    rw [← Option.some.inj hi]
    exact ⟨hrole, he, Nat.min_le_left _ _⟩

/-- A refill order counts one attempt, below the limit (R89, R90). -/
theorem CavitySound.orderCavity {s : State} {r : Recipe} {cav : Cavity} (hs : CavitySound s r cav) (p : Port)
    (outcome : RefillOutcome) (hlow : cav.attempts < r.refillLimit) : CavitySound s r (orderCavity p outcome cav) := by
  obtain ⟨hcount, hnodup, hplaced, hseen, -⟩ := hs
  exact ⟨hcount, hnodup, hplaced, hseen, hlow⟩

theorem cavitySound_fresh (s : State) (r : Recipe) : CavitySound s r Cavity.fresh := by
  refine ⟨rfl, .nil, fun e he => absurd he List.not_mem_nil, fun i hi => ?_, Nat.zero_le _⟩
  cases hi

/-! ### Cards with sound cavities -/

/-- A card has one sound cavity record for each cavity of its recipe. -/
def CavitiesHeld (s : State) (r : Recipe) (c : Card) : Prop :=
  c.cavities.length = r.cavities.length ∧ ∀ cav ∈ c.cavities, CavitySound s r cav

theorem CavitiesHeld.of_cavities {s : State} {r : Recipe} {c d : Card} (hs : CavitiesHeld s r c)
    (h : d.cavities = c.cavities) : CavitiesHeld s r d := by
  rw [CavitiesHeld, h]
  exact hs

theorem CavitiesHeld.closeFeed {s : State} {r : Recipe} {c : Card} (hs : CavitiesHeld s r c) {p : Port} (o : Nat)
    (hrole : (s.station p).role = .feed) : CavitiesHeld s r (closeFeed s.stations p r o c) := by
  have hcavities : CavitiesHeld s r { c with
      cavities := mapSpec (fun spec cav =>
        if owesEntry p spec cav then Cavity.recount s.stations { cav with placements := cav.placements ++ [⟨p, 0⟩] } else cav)
        r.cavities c.cavities } := by
    refine ⟨(length_mapSpec _ _ _).trans hs.1, fun x hx => ?_⟩
    obtain ⟨cav, hcav, rfl | ⟨spec, rfl⟩⟩ := mem_mapSpec hx
    · exact hs.2 _ hcav
    · split
      · next howes => exact (hs.2 cav hcav).owed hrole howes
      · exact hs.2 cav hcav
  unfold Machine.closeFeed
  dsimp only
  split
  · exact hcavities.of_cavities (Card.condemn_cavities _ _ _ _)
  · exact hcavities

theorem CavitiesHeld.closeCard {s : State} {r : Recipe} {c : Card} (hs : CavitiesHeld s r c) (p : Port) (o : Nat) :
    CavitiesHeld s r (closeCard s p r o c) := by
  have hwork : CavitiesHeld s r (closeWork s p r o c) := by
    have hcondemn (x : Reason) : CavitiesHeld s r (c.condemn x (some p) o) := hs.of_cavities (Card.condemn_cavities _ _ _ _)
    unfold closeWork
    split
    case h_1 => split; exacts [hs, hcondemn _]
    case h_2 hrole => exact hs.closeFeed o hrole
    case h_3 => split; exacts [hcondemn _, hs]
    case h_4 =>
      refine ⟨(List.length_map _).trans hs.1, fun x hx => ?_⟩
      obtain ⟨cav, hcav, rfl⟩ := List.mem_map.mp hx
      unfold closeOrder
      split
      · exact hs.2 cav hcav
      · exact hs.2 cav hcav
    case h_5 => split; exacts [hs, hcondemn _]
    case h_6 => split; exacts [hs, hs]
    case h_7 | h_8 => exact hs
  unfold Machine.closeCard
  dsimp only
  split
  · exact hwork
  · exact hs

theorem CavitiesHeld.orderCard {s : State} {r : Recipe} {c : Card} (hs : CavitiesHeld s r c) (p : Port)
    (outcome : RefillOutcome) : CavitiesHeld s r (orderCard s.stations p r outcome c) := by
  unfold Machine.orderCard
  split
  · refine ⟨(length_mapSpec _ _ _).trans hs.1, fun x hx => ?_⟩
    obtain ⟨cav, hcav, rfl | ⟨spec, rfl⟩⟩ := mem_mapSpec hx
    · exact hs.2 _ hcav
    · split
      · next hwants =>
        simp only [wantsRefill, Bool.and_eq_true, decide_eq_true_iff] at hwants
        obtain ⟨⟨-, hlow⟩, -⟩ := hwants
        exact (hs.2 cav hcav).orderCavity p outcome hlow
      · exact hs.2 cav hcav
  · exact hs

theorem CavitiesHeld.cardWork {s : State} {row : Row} {c d : Card} (h : CardWork s row c d)
    (hs : CavitiesHeld s (s.recipe row.recipe) c) : CavitiesHeld s (s.recipe row.recipe) d := by
  cases h with
  | close p => exact hs.closeCard p _
  | order p outcome => exact hs.orderCard p outcome
  | judge =>
    obtain ⟨-, -, -, -, hcavities⟩ := judgeCard_frame (s.recipe row.recipe) row.offset c
    exact hs.of_cavities hcavities
  | inhibit => exact hs.of_cavities (by unfold inhibitCard; split <;> rfl)
  | freeze =>
    obtain ⟨-, -, -, -, hcavities⟩ := freezeCard_frame (s.recipe row.recipe) row.offset c
    exact hs.of_cavities hcavities

theorem checkInspection_classSeen {entries : List InspectEntry} {r : Recipe} (h : checkInspection entries r = none) :
    ∀ e ∈ entries, e.classSeen.toNat ≤ 63 := by
  unfold checkInspection at h
  split at h
  · cases h
  · split at h
    · cases h
    · next hgood =>
      intro e he
      by_contra hbig
      exact hgood (List.any_eq_true.mpr ⟨e, he, by simp; omega⟩)

theorem CavitiesHeld.report {s : State} {r : Recipe} {x : Card} (hs : CavitiesHeld s r x) {c : Instr} {p : Port}
    {number : Word} {lane : Octet} {permitted : Role → Bool} {check : Row → Recipe → Card → Option Code}
    {app : State → Row → Recipe → Card → Card} (kind : ReportOf c p number lane permitted check app) (row : Row)
    (valid : check row r x = none) (hrole : permitted (s.station p).role = true) :
    CavitiesHeld s r (app s row r (joinReported p x)) := by
  cases kind with
  | formResult =>
    have hforms (l : List FormOutcome) : CavitiesHeld s r { joinReported p x with cavities := setForms l x.cavities } := by
      refine ⟨(length_setForms _ _).trans hs.1, fun y hy => ?_⟩
      obtain ⟨cav, hcav, form, rfl⟩ := mem_setForms hy
      exact hs.2 cav hcav
    unfold applyForm
    dsimp only
    split
    · exact (hforms _).of_cavities (Card.condemn_cavities _ _ _ _)
    · split
      · exact (hforms _).of_cavities (Card.condemn_cavities _ _ _ _)
      · exact hforms _
  | placement =>
    refine ⟨(length_mapFrom _ _ _).trans hs.1, fun y hy => ?_⟩
    obtain ⟨i, cav, hcav, rfl⟩ := mem_mapFrom hy
    split
    · exact (hs.2 cav hcav).placeInto (by simpa using hrole) (Nat.min_le_left _ _)
    · exact hs.2 cav hcav
  | inspection _ _ _ _ entries =>
    have hseen : CavitiesHeld s r { joinReported p x with
        cavities := (inspectFrom s.stations p entries 0 r.cavities x.cavities).1 } := by
      refine ⟨(length_inspectFrom _ _ _ _ _ _).trans hs.1, fun y hy => ?_⟩
      obtain ⟨cav, hcav, rfl | ⟨spec, e, he, rfl⟩⟩ := mem_inspectFrom hy
      · exact hs.2 _ hcav
      · exact (hs.2 cav hcav).inspectInto (by simpa using hrole) (checkInspection_classSeen valid e he)
    unfold applyInspection
    dsimp only
    split
    · exact hseen.of_cavities (Card.condemn_cavities _ _ _ _)
    · exact hseen
  | sealHit =>
    obtain ⟨-, -, -, hcavities⟩ := applySealHit_frame p row.offset r _ _ _ _ (joinReported p x)
    exact hs.of_cavities hcavities
  | discharge => exact hs

theorem cavitiesHeld_fresh (s : State) (r : Recipe) (l : Fin 4) : CavitiesHeld s r (Card.fresh l r.cavityCount) :=
  ⟨List.length_replicate, fun x hx => by rw [List.eq_of_mem_replicate hx]; exact cavitySound_fresh s r⟩

/-! ### The rows -/

/-- What `CavitiesSound` says of one row. -/
def RowHeld (s : State) (row : Row) : Prop :=
  row.laneMask = (s.recipe row.recipe).laneMask ∧ lanesHeld row = lanesOf row.laneMask ∧
    ∀ c ∈ row.cards, CavitiesHeld s (s.recipe row.recipe) c

theorem RowHeld.of_samePlan {s t : State} {row : Row} (hs : RowHeld s row) (h : SamePlan s t)
    (hr : t.recipe row.recipe = s.recipe row.recipe) : RowHeld t row := by
  obtain ⟨hmask, hlanes, hcards⟩ := hs
  refine ⟨hr ▸ hmask, hlanes, fun c hc => ?_⟩
  rw [hr]
  obtain ⟨hlength, hsound⟩ := hcards c hc
  exact ⟨hlength, fun cav hcav => (hsound cav hcav).of_samePlan h⟩

/-- A row of the same key and lanes, its cards' cavities held, is held. -/
theorem RowHeld.of_cards {s : State} {row row' : Row} (hs : RowHeld s row) (hkey : rowKey row' = rowKey row)
    (hlanes : lanesHeld row' = lanesHeld row) (hcards : ∀ d ∈ row'.cards, CavitiesHeld s (s.recipe row.recipe) d) :
    RowHeld s row' := by
  have hrecipe : row'.recipe = row.recipe := congrArg (·.2.2.1) hkey
  have hmask : row'.laneMask = row.laneMask := congrArg (·.2.2.2.1) hkey
  rw [RowHeld, hrecipe, hmask, hlanes]
  exact ⟨hs.1, hs.2.1, hcards⟩

theorem CavitiesSound.oneCardPerLane {s : State} (hs : CavitiesSound s) : OneCardPerLane s := fun row hrow => by
  obtain ⟨-, hlanes, -⟩ := hs row hrow
  rw [hlanes]
  exact nodup_lanesOf _

theorem CavitiesSound.sameButPorts {s t : State} (hs : CavitiesSound s) (h : SameButPorts s t) : CavitiesSound t := by
  obtain ⟨v, e, i, n, rfl⟩ := h
  exact hs

theorem cavitiesSound_advanceRows {s : State} (hs : CavitiesSound s) : CavitiesSound (advanceRows (countIndex s)) := by
  have hw := worked_advanceRows (countIndex s)
  intro row' hrow'
  obtain ⟨row, hrow, -, hwork⟩ := mem_advanceRows hrow'
  have hold : RowHeld s row := hs row hrow
  have hcards : ∀ d ∈ row'.cards, CavitiesHeld (countIndex s) ((countIndex s).recipe (moved row).recipe) d :=
    hwork.forall_cards (fun _ _ hc hp => hp.cardWork hc) hold.2.2
  have hmoved : RowHeld s (moved row) := hold
  exact (hmoved.of_cards hwork.rowKey_eq hwork.lanesHeld_eq hcards).of_samePlan (samePlan_of_eq hw.stations_eq)
    (hw.recipe_eq _)

/-- Where a recipe is not in use, no row on the map is formed with it (R53). -/
theorem UseCountsMatch.recipe_ne {s : State} (hs : UseCountsMatch s) {id : RecipeId} (h : s.useCount id = 0) :
    ∀ row ∈ s.rows, row.recipe ≠ id := by
  intro row hrow hid
  have := hs id
  rw [h] at this
  have hmem : row ∈ s.rows.filter fun r => r.recipe = id := List.mem_filter.mpr ⟨hrow, by simpa using hid⟩
  rw [List.length_eq_zero_iff.mp this.symm] at hmem
  cases hmem

theorem cavitiesSound_effect {c : Instr} {s t : State} (h : Effect s c t) (hmap : MapSound s) (huse : UseCountsMatch s)
    (hs : CavitiesSound s) : CavitiesSound t := by
  have hempty (h : s.line = .idle) (u : State) (hu : u.rows = s.rows) : CavitiesSound u := by
    rw [CavitiesSound, hu, hmap.2.1 h]
    exact fun _ hrow => absurd hrow List.not_mem_nil
  have hrows := cavitiesSound_advanceRows hs
  have hmode (u : State) (hu : u.rows = s.rows) (hplan : SamePlan s u) (hr : u.recipes = s.recipes) : CavitiesSound u :=
    fun row hrow => RowHeld.of_samePlan (s := s) (hs row (hu ▸ hrow)) hplan (by rw [State.recipe, hr]; rfl)
  cases h with
  | masterReset | purge => exact fun _ hrow => absurd hrow List.not_mem_nil
  | block octets type body s1 address loading good =>
    obtain ⟨a, q, e, -, rfl⟩ | ⟨id, a, -, rfl⟩ | ⟨v, rfl⟩ | ⟨a, b, c, rfl⟩ | ⟨o, rfl⟩ := loadBlock_cases good <;>
      exact hempty (hmap.1 (.inr loading)) _ rfl
  | loadStops _ loading => exact hempty (hmap.1 (.inr loading)) _ rfl
  | stationWrite _ _ _ _ _ _ idle => exact hempty idle _ rfl
  | recipeWrite p tag o recipe id unused =>
    refine fun row hrow => RowHeld.of_samePlan (s := s) (hs row hrow) (samePlan_of_eq rfl) ?_
    rw [State.recipe_setRecipe, if_neg (huse.recipe_ne unused row hrow)]
  | advancedInDrain =>
    obtain ⟨v, e, i, n, h⟩ | ⟨-, v, e, i, n, h⟩ := drainEnd_sameButPorts (countIndex s) (advanceRows (countIndex s)) <;>
      exact h ▸ hrows
  | advancedInRun id =>
    obtain ⟨v, e, i, n, h⟩ := (formRow_eq id (advanceRows (countIndex s))).2
    rw [h]
    intro row hrow
    obtain hrow | hrow := List.mem_append.mp hrow
    · exact hrows row hrow
    · rw [List.mem_singleton.mp hrow]
      refine ⟨rfl, lanesHeld_formedRow _ _ _ _, fun c hc => ?_⟩
      obtain ⟨l, -, rfl⟩ := List.mem_map.mp hc
      exact cavitiesHeld_fresh _ _ _
  | report c p number lane permitted check app row l card held ready kind admitted inRow found valid =>
    intro x' hx'
    obtain ⟨x, hx, hkey, -, hcards⟩ := mem_updateCard_admitted hmap hs.oneCardPerLane admitted found hx'
    obtain ⟨y, hy, hkeyy, hlanes⟩ := lanesHeld_updateCard (fun c => report_lane kind s row _ c) hx'
    have hyx : y = x := hmap.row_unique hy hx (congrArg (·.1) (hkeyy.symm.trans hkey))
    have hold : RowHeld s x := hs x hx
    refine (hold.of_cards hkey (hyx ▸ hlanes) fun d hd => ?_).of_samePlan (samePlan_of_eq rfl) rfl
    obtain ⟨z, hz, rfl | ⟨hrow, hcard, rfl⟩⟩ := hcards d hd
    · exact hold.2.2 _ hz
    · obtain ⟨hrole, -, -, -, -⟩ := screenReport_ok admitted
      rw [← hrow] at valid ⊢
      exact (hold.2.2 z hz).report kind _ (hcard ▸ valid) hrole
  | condemn =>
    intro x' hx'
    obtain ⟨x, hx, hkey, f, hcards, hf⟩ := mem_condemned hx'
    have hold : RowHeld s x := hs x hx
    refine (hold.of_cards hkey ?_ fun d hd => ?_).of_samePlan (samePlan_of_eq rfl) rfl
    · rw [lanesHeld, hcards, List.map_map]
      refine List.map_congr_left fun c _ => ?_
      obtain h | h := hf c <;> simp [h]
    · rw [hcards] at hd
      obtain ⟨y, hy, rfl⟩ := List.mem_map.mp hd
      refine (hold.2.2 y hy).of_cavities ?_
      obtain h | h := hf y <;> simp [h]
  | linkDown | stationModeSet => exact hmode _ rfl (samePlan_setMode s _ _) rfl
  | _ => exact hmode _ rfl (samePlan_of_eq rfl) rfl

/-- Entries of distinct FEED and TOPUP stations are at most as many as those stations. -/
theorem placements_le {s : State} {r : Recipe} {cav : Cavity} (hs : CavitySound s r cav) :
    cav.placements.length ≤ (s.portsWith .feed).length + (s.portsWith .topup).length := by
  obtain ⟨-, hnodup, hplaced, -, -⟩ := hs
  have hsub : cav.placements.map (·.station) ⊆ s.portsWith .feed ++ s.portsWith .topup := by
    intro p hp
    obtain ⟨e, he, rfl⟩ := List.mem_map.mp hp
    rw [List.mem_append, mem_portsWith, mem_portsWith]
    exact (hplaced e he).1
  have := (List.subperm_of_subset hnodup hsub).length_le
  rwa [List.length_map, List.length_append] at this

/-! ### The reported sets -/

/-- No work of an advance puts a port in a reported set. -/
theorem CardWork.reported_of {s : State} {row : Row} {c d : Card} (h : CardWork s row c d) {p : Port}
    (hp : d.reported.get p = true) : c.reported.get p = true := by
  cases h with
  | close q =>
    obtain ⟨-, -, -, hreported⟩ := closeCard_frame s q (s.recipe row.recipe) row.offset c
    rw [hreported, PerPort.get_set] at hp
    split at hp
    · cases hp
    · exact hp
  | order => unfold orderCard at hp; split at hp <;> exact hp
  | judge =>
    obtain ⟨-, -, -, hreported, -⟩ := judgeCard_frame (s.recipe row.recipe) row.offset c
    rwa [hreported] at hp
  | inhibit => unfold inhibitCard at hp; split at hp <;> exact hp
  | freeze =>
    obtain ⟨-, -, -, hreported, -⟩ := freezeCard_frame (s.recipe row.recipe) row.offset c
    rwa [hreported] at hp

theorem CardWorked.reported_of {s : State} {row : Row} {c d : Card} (h : CardWorked s row c d) {p : Port}
    (hp : d.reported.get p = true) : c.reported.get p = true := by
  induction h with
  | refl => exact hp
  | tail _ hw ih => exact ih (hw.reported_of hp)

/-- A port whose window closes has left the reported sets of the row (R39). -/
theorem closeRow_reported {s : State} {row : Row} {p : Port} (hcloses : closesAt (s.station p) row.offset = true) :
    ∀ c ∈ (closeRow s row).cards, c.reported.get p = false := by
  have hstep (x : Row) (q : Port) (hx : ∀ c ∈ x.cards, c.reported.get p = false) :
      ∀ c ∈ (if closesAt (s.station q) x.offset then
        { x with cards := x.cards.map (closeCard s q (s.recipe x.recipe) x.offset) } else x).cards,
        c.reported.get p = false := by
    split
    · intro c hc
      obtain ⟨c0, hc0, rfl⟩ := List.mem_map.mp hc
      obtain ⟨-, -, -, hreported⟩ := closeCard_frame s q (s.recipe x.recipe) x.offset c0
      rw [hreported, PerPort.get_set]
      split
      · rfl
      · exact hx c0 hc0
    · exact hx
  have hkeep (l : List Port) : ∀ x : Row, (∀ c ∈ x.cards, c.reported.get p = false) →
      ∀ c ∈ (l.foldl (fun row p => if closesAt (s.station p) row.offset then
        { row with cards := row.cards.map (closeCard s p (s.recipe row.recipe) row.offset) } else row) x).cards,
        c.reported.get p = false := by
    induction l with
    | nil => exact fun x hx => hx
    | cons q l ih => exact fun x hx => ih _ (hstep x q hx)
  have hmeet (l : List Port) (hl : p ∈ l) : ∀ x : Row, x.offset = row.offset →
      ∀ c ∈ (l.foldl (fun row p => if closesAt (s.station p) row.offset then
        { row with cards := row.cards.map (closeCard s p (s.recipe row.recipe) row.offset) } else row) x).cards,
        c.reported.get p = false := by
    induction l with
    | nil => cases hl
    | cons q l ih =>
      intro x hx
      by_cases hq : p = q
      · subst hq
        refine hkeep l _ fun c hc => ?_
        beta_reduce at hc
        rw [if_pos (hx ▸ hcloses)] at hc
        obtain ⟨c0, -, rfl⟩ := List.mem_map.mp hc
        obtain ⟨-, -, -, hreported⟩ := closeCard_frame s p (s.recipe x.recipe) x.offset c0
        rw [hreported, PerPort.get_set_same]
      · refine ih ((List.mem_cons.mp hl).resolve_left hq) _ ?_
        beta_reduce
        split
        · exact hx
        · exact hx
  exact hmeet Port.all (by cases p <;> simp [Port.all]) row rfl

theorem workedRow_reported {s : State} {row : Row} {p : Port} (hcloses : closesAt (s.station p) row.offset = true) :
    ∀ c ∈ (workedRow s row).cards, c.reported.get p = false :=
  (rowWork_arriveRow (closeRow s row) s).1.forall_cards
    (fun _ _ hw hc => by
      by_contra hp
      rw [hw.reported_of ((Bool.not_eq_false _).mp hp)] at hc
      cases hc)
    (closeRow_reported hcloses)

/-- A port in a reported set has its window open for the row. -/
def OpenAt (s : State) (row : Row) : Prop :=
  ∀ c ∈ row.cards, ∀ p, c.reported.get p = true →
    (s.station p).role.onLine = true ∧ (s.station p).offset ≤ row.offset ∧
      row.offset < (s.station p).offset + (s.station p).window

theorem openAt_rowTaken {s : State} {row row' : Row} (h : RowTaken s (moved row) row') (hs : OpenAt s row) : OpenAt s row' := by
  have hwork := h.rowWork
  have ho : row'.offset = row.offset + 1 := hwork.offset_eq
  obtain ⟨t, ht, rfl⟩ := h
  intro d hd p hp
  have hold : ∃ c ∈ row.cards, c.reported.get p = true := by
    obtain ⟨f, hrow', hf⟩ := hwork
    rw [hrow'] at hd
    obtain ⟨c, hc, rfl⟩ := List.mem_map.mp hd
    exact ⟨c, hc, (hf c).reported_of hp⟩
  obtain ⟨c, hc, hcp⟩ := hold
  obtain ⟨hline, hlow, hhigh⟩ := hs c hc p hcp
  have hopen : closesAt (s.station p) (row.offset + 1) = false := by
    by_contra hcloses
    have := workedRow_reported (s := t) (row := moved row) (p := p)
      (by rw [ht.station_eq]; exact (Bool.not_eq_false _).mp hcloses) d hd
    rw [hp] at this
    cases this
  rw [closesAt, hline, Bool.true_and, beq_eq_false_iff_ne] at hopen
  rw [ho]
  exact ⟨hline, by omega, by omega⟩

theorem OpenAt.of_samePlan {s t : State} {row : Row} (hs : OpenAt s row) (h : SamePlan s t) : OpenAt t row := by
  intro c hc p hp
  rw [h.role_eq, h.offset_eq, h.window_eq]
  exact hs c hc p hp

theorem ReportedOpen.sameButPorts {s t : State} (hs : ReportedOpen s) (h : SameButPorts s t) : ReportedOpen t := by
  obtain ⟨v, e, i, n, rfl⟩ := h
  exact hs

theorem report_reported {c : Instr} {p : Port} {number : Word} {lane : Octet} {permitted : Role → Bool}
    {check : Row → Recipe → Card → Option Code} {app : State → Row → Recipe → Card → Card}
    (kind : ReportOf c p number lane permitted check app) (s : State) (row : Row) (r : Recipe) (x : Card) :
    (app s row r (joinReported p x)).reported = x.reported.set p true := by
  cases kind with
  | formResult =>
    unfold applyForm
    dsimp only
    split
    · exact Card.condemn_reported _ _ _ _
    · split
      · exact Card.condemn_reported _ _ _ _
      · rfl
  | placement => rfl
  | inspection =>
    unfold applyInspection
    dsimp only
    split
    · exact Card.condemn_reported _ _ _ _
    · rfl
  | sealHit =>
    obtain ⟨-, -, hreported, -⟩ := applySealHit_frame p row.offset r _ _ _ _ (joinReported p x)
    exact hreported
  | discharge => rfl

/-- The roles that may send a report have a place on the line (R33). -/
theorem ReportOf.onLine {c : Instr} {p : Port} {number : Word} {lane : Octet} {permitted : Role → Bool}
    {check : Row → Recipe → Card → Option Code} {app : State → Row → Recipe → Card → Card}
    (kind : ReportOf c p number lane permitted check app) {role : Role} (h : permitted role = true) : role.onLine = true := by
  cases kind <;> cases role <;> first | rfl | cases h

theorem reportedOpen_effect {c : Instr} {s t : State} (h : Effect s c t) (hmap : MapSound s) (hs : ReportedOpen s) :
    ReportedOpen t := by
  have hempty (h : s.line = .idle) (u : State) (hu : u.rows = s.rows) : ReportedOpen u := by
    rw [ReportedOpen, hu, hmap.2.1 h]
    exact fun _ hrow => absurd hrow List.not_mem_nil
  have hrows : ReportedOpen (advanceRows (countIndex s)) := fun row' hrow' => by
    obtain ⟨row, hrow, -, htaken⟩ := mem_advanceRows_taken hrow'
    exact (openAt_rowTaken htaken (hs row hrow)).of_samePlan (samePlan_of_eq (worked_advanceRows _).stations_eq)
  have hmode (u : State) (hu : u.rows = s.rows) (hplan : SamePlan s u) : ReportedOpen u :=
    fun row hrow => OpenAt.of_samePlan (s := s) (hs row (hu ▸ hrow)) hplan
  cases h with
  | masterReset | purge => exact fun _ hrow => absurd hrow List.not_mem_nil
  | block octets type body s1 address loading good =>
    obtain ⟨a, q, e, -, rfl⟩ | ⟨id, a, -, rfl⟩ | ⟨v, rfl⟩ | ⟨a, b, c, rfl⟩ | ⟨o, rfl⟩ := loadBlock_cases good <;>
      exact hempty (hmap.1 (.inr loading)) _ rfl
  | loadStops _ loading => exact hempty (hmap.1 (.inr loading)) _ rfl
  | stationWrite _ _ _ _ _ _ idle => exact hempty idle _ rfl
  | advancedInDrain =>
    obtain ⟨v, e, i, n, h⟩ | ⟨-, v, e, i, n, h⟩ := drainEnd_sameButPorts (countIndex s) (advanceRows (countIndex s)) <;>
      exact h ▸ hrows
  | advancedInRun id =>
    obtain ⟨v, e, i, n, h⟩ := (formRow_eq id (advanceRows (countIndex s))).2
    rw [h]
    intro row hrow
    obtain hrow | hrow := List.mem_append.mp hrow
    · exact hrows row hrow
    · rw [List.mem_singleton.mp hrow]
      intro c hc p hp
      obtain ⟨l, -, rfl⟩ := List.mem_map.mp hc
      simp [Card.fresh] at hp
  | report c p number lane permitted check app row l card held ready kind admitted =>
    obtain ⟨hrole, -, hfind, hlow, hhigh⟩ := screenReport_ok admitted
    obtain ⟨hrow, hnumber⟩ : row ∈ s.rows ∧ row.number = number :=
      ⟨List.mem_of_find?_eq_some hfind, by simpa using List.find?_some hfind⟩
    intro x' hx' d hd q hq
    obtain ⟨x, hx, hkey, hcards⟩ := mem_updateCard hx'
    rw [show x'.offset = x.offset from congrArg (·.2.1) hkey]
    rw [hcards] at hd
    obtain ⟨y, hy, rfl⟩ := List.mem_map.mp hd
    split at hq
    · next hnamed =>
      rw [report_reported kind, PerPort.get_set] at hq
      split at hq
      · next hqp =>
        have hxrow : x = row := hmap.row_unique hx hrow (hnamed.1.trans hnumber.symm)
        subst hqp hxrow
        exact ⟨kind.onLine hrole, hlow, hhigh⟩
      · exact hs x hx y hy q hq
    · exact hs x hx y hy q hq
  | condemn =>
    intro x' hx' d hd q hq
    obtain ⟨x, hx, hkey, f, hcards, hf⟩ := mem_condemned hx'
    rw [show x'.offset = x.offset from congrArg (·.2.1) hkey]
    rw [hcards] at hd
    obtain ⟨y, hy, rfl⟩ := List.mem_map.mp hd
    have hreported : (f y).reported = y.reported := by obtain h | h := hf y <;> simp [h]
    exact hs x hx y hy q (hreported ▸ hq)
  | linkDown | stationModeSet => exact hmode _ rfl (samePlan_setMode s _ _)
  | _ => exact hmode _ rfl (samePlan_of_eq rfl)

/-- Settles O60: the cavity records by the walk of each operation, the four entries by check 7, and the reported sets by
the closes of the row's offset. -/
theorem cardRecordsStaySound : Obligations.CardRecordsStaySound := by
  refine ⟨fun s t hmap huse hs h => ?_, fun s hfollow hs row hrow c hc cav hcav => ?_, fun s t hmap hs h => ?_⟩
  · exact (step_induction (P := fun s => MapSound s ∧ UseCountsMatch s ∧ CavitiesSound s) ⟨hmap, huse, hs⟩ (fun _ _ h => h)
      (fun _ _ h hs => ⟨hs.1.sameButPorts h, hs.2.1.sameButPorts h, hs.2.2.sameButPorts h⟩)
      (fun _ _ _ h hs => ⟨mapSound_effect h hs.1, useCountsMatch_effect h hs.2.1,
        cavitiesSound_effect h hs.1 hs.2.1 hs.2.2⟩) h).2.2
  · have hline : s.line ≠ .idle := fun h => by rw [hfollow.1.2.1 h] at hrow; cases hrow
    obtain ⟨⟨-, -, -, -, -, -, h7, -⟩, -⟩ := hfollow.2 hline
    obtain ⟨-, -, hcards⟩ := hs row hrow
    have hports := placements_le ((hcards c hc).2 cav hcav)
    simp only [startCheck7, Bool.and_eq_true, decide_eq_true_iff] at h7
    omega
  · exact (step_induction (P := fun s => MapSound s ∧ ReportedOpen s) ⟨hmap, hs⟩ (fun _ _ h => h)
      (fun _ _ h hs => ⟨hs.1.sameButPorts h, hs.2.sameButPorts h⟩)
      (fun _ _ _ h hs => ⟨mapSound_effect h hs.1, reportedOpen_effect h hs.1 hs.2⟩) h).2

end Sys2Proof.Machine

/-! ## The queues stay within their sizes -/

namespace Sys2Proof.Machine

/-! ### Changes that keep a port's queues within their sizes -/

/-- A port block after a change that reserves nothing and takes neither queue beyond its size. -/
structure Within (b c : PortBlock) : Prop where
  inbound : b.inbound.length ≤ Config.inboundSize → c.inbound.length ≤ Config.inboundSize
  reserved : c.reserved = b.reserved
  outbound : b.outbound.length + b.reserved ≤ Config.outboundSize → c.outbound.length + c.reserved ≤ Config.outboundSize

theorem Within.refl (b : PortBlock) : Within b b := ⟨id, rfl, id⟩

theorem Within.trans {a b c : PortBlock} (h : Within a b) (k : Within b c) : Within a c :=
  ⟨k.inbound ∘ h.inbound, k.reserved.trans h.reserved, k.outbound ∘ h.outbound⟩

theorem Offered.within {b c : PortBlock} (h : Offered b c) : Within b c :=
  ⟨fun hb => h.inbound ▸ hb, h.reserved, h.bounded⟩

/-- A change that leaves both queues and the reservations. -/
theorem within_of_eq {b c : PortBlock} (h1 : c.inbound = b.inbound) (h2 : c.outbound = b.outbound)
    (h3 : c.reserved = b.reserved) : Within b c := ⟨fun h => h1 ▸ h, h3, fun h => by rwa [h2, h3]⟩

theorem within_offerCredit (b : PortBlock) : Within b b.offerCredit :=
  ⟨fun h => by rwa [b.offerCredit_inbound], b.offerCredit_reserved, b.offerCredit_bounded⟩

theorem within_linkUp (b : PortBlock) : Within b (linkUp b) := by
  obtain ⟨-, h⟩ | ⟨-, h⟩ := linkUp_eq b <;> rw [h]
  · exact (within_of_eq (b := b) (c := { b with link := .up, quiet := 0 }) rfl rfl rfl).trans (within_offerCredit _)
  · exact within_of_eq rfl rfl rfl

theorem within_downBlock (b : PortBlock) : Within b (downBlock b) :=
  ⟨fun _ => Nat.zero_le _, rfl, fun h => (Nat.add_le_add_right (Nat.zero_le _) _).trans h⟩

/-- All ports changed within their sizes, and the engine left. -/
def PortsWithin (s t : State) : Prop := t.engine = s.engine ∧ ∀ p, Within (s.port p) (t.port p)

theorem PortsWithin.refl (s : State) : PortsWithin s s := ⟨rfl, fun _ => .refl _⟩

theorem PortsWithin.trans {s t u : State} (h : PortsWithin s t) (k : PortsWithin t u) : PortsWithin s u :=
  ⟨k.1.trans h.1, fun p => (h.2 p).trans (k.2 p)⟩

theorem portsWithin_of_eq {s t : State} (h : t.ports = s.ports) (he : t.engine = s.engine) : PortsWithin s t :=
  ⟨he, fun _ => by rw [State.port, State.port, h]; exact .refl _⟩

theorem Worked.portsWithin {s t : State} (h : Worked s t) : PortsWithin s t := ⟨h.engine_eq, fun p => (h.2 p).within⟩

theorem portsWithin_onPort {s : State} {p : Port} {f : PortBlock → PortBlock} (h : Within (s.port p) (f (s.port p))) :
    PortsWithin s (s.onPort p f) := by
  refine ⟨rfl, fun q => ?_⟩
  rw [State.port_onPort]
  split
  · next e => subst e; exact h
  · exact .refl _

theorem portsWithin_onPorts {s : State} {f : Port → PortBlock → PortBlock} (h : ∀ p, Within (s.port p) (f p (s.port p))) :
    PortsWithin s (s.onPorts f) :=
  ⟨rfl, fun q => by rw [State.port_onPorts]; exact h q⟩

theorem portsWithin_latchOn (choose : Port → Bool) (e : Event) (s : State) : PortsWithin s (latchOn choose e s) := by
  refine portsWithin_onPorts fun p => ?_
  split
  · exact within_of_eq rfl rfl rfl
  · exact .refl _

theorem portsWithin_raise (choose : Port → Bool) (e : Event) (s : State) : PortsWithin s (raise choose e s) :=
  (worked_raise choose e s).portsWithin

theorem portsWithin_receiveRequest (p : Port) (r : InReq) (s : State) : PortsWithin s (receiveRequest p r s) := by
  refine (portsWithin_onPort (p := p) (f := linkUp) (within_linkUp _)).trans ?_
  change PortsWithin (s.onPort p linkUp) (enqueue p r (s.onPort p linkUp))
  unfold enqueue
  split
  · next h => exact portsWithin_onPort ⟨fun _ => by simpa using h, rfl, id⟩
  · exact PortsWithin.trans (portsWithin_onPort (within_of_eq rfl rfl rfl)) (worked_announce _ _).portsWithin

/-! ### Ports within their sizes -/

/-- One port's queues within their sizes, with an entry reserved for the engine's request alone (R145, R147). -/
def PortBounded (engine : Option Request) (p : Port) (b : PortBlock) : Prop :=
  b.inbound.length ≤ Config.inboundSize ∧ b.outbound.length + b.reserved ≤ Config.outboundSize ∧
    b.reserved = reservedFor engine p

/-- Every port's queues within their sizes. -/
def PortsBounded (s : State) : Prop := ∀ p, PortBounded s.engine p (s.port p)

theorem PortBounded.within {engine : Option Request} {p : Port} {b c : PortBlock} (hs : PortBounded engine p b)
    (h : Within b c) : PortBounded engine p c :=
  ⟨h.inbound hs.1, h.outbound hs.2.1, h.reserved.trans hs.2.2⟩

theorem PortsBounded.within {s t : State} (hs : PortsBounded s) (h : PortsWithin s t) : PortsBounded t := fun p => by
  rw [h.1]
  exact (hs p).within (h.2 p)

theorem reservedFor_none (p : Port) : reservedFor none p = 0 := rfl

theorem reservedFor_le (engine : Option Request) (p : Port) : reservedFor engine p ≤ 1 := by
  unfold reservedFor
  split
  · split <;> omega
  · omega

/-- A frame sent frees an entry, which at most a pending ATTENTION takes (R147, R149). -/
theorem PortBounded.finishSending {engine : Option Request} {p : Port} {b : PortBlock} (hs : PortBounded engine p b) :
    PortBounded engine p (finishSending b) := by
  obtain ⟨hin, hout, hreserved⟩ := hs
  have hle := reservedFor_le engine p
  have htail : b.outbound.tail.length = b.outbound.length - 1 := List.length_tail
  unfold Machine.finishSending
  dsimp only
  split
  · refine ⟨hin, ?_, hreserved⟩
    simp only [PortBlock.place, List.length_append, List.length_singleton, Config.outboundSize] at hout ⊢
    omega
  · refine ⟨hin, ?_, hreserved⟩
    dsimp only
    omega

/-- A grant reserves an entry for a non-posted request, which has one free (R147, R150). -/
theorem PortBounded.granted {p : Port} {q : InReq} {rest : List InReq} {b : PortBlock} (hs : PortBounded none p b)
    (h : eligible b = some (q, rest)) : PortBounded (some ⟨p, q.tag, q.body⟩) p (grantedBlock q rest b) := by
  obtain ⟨l, m, hinbound, rfl, -, hfree⟩ := eligible_eq_some h
  obtain ⟨hin, hout, hreserved⟩ := hs
  obtain ⟨c, hc, hgrant⟩ := grantedBlock_eq q (l ++ m) b
  have hbounded : PortBounded (some ⟨p, q.tag, q.body⟩) p c := by
    rw [hinbound] at hin
    rw [reservedFor_none] at hreserved
    subst hc
    refine ⟨?_, ?_, ?_⟩ <;> dsimp only
    · simp only [List.length_append, List.length_cons] at hin ⊢
      omega
    · cases hposted : q.body.posted with
      | true => exact hout
      | false =>
        obtain ⟨hf, -⟩ | ⟨-, hf⟩ := hfree
        · rw [b.hasFree_iff] at hf
          simp only [Bool.false_eq_true, if_false]
          omega
        · rw [hposted] at hf; cases hf
    · rw [reservedFor, hreserved]
      cases q.body.posted <;> simp
  obtain h | h := hgrant <;> rw [h]
  · exact hbounded
  · exact hbounded.within (within_offerCredit c)

theorem PortsBounded.grantNext {s : State} (hs : PortsBounded s) : PortsBounded (grantNext s) := by
  obtain h | ⟨i, p, q, rest, hengine, -, heligible, h⟩ := grantNext_eq s <;> rw [h]
  · exact hs
  · intro x
    have hx := hs x
    rw [hengine] at hx
    change PortBounded _ x ((s.onPort p (grantedBlock q rest)).port x)
    rw [State.port_onPort]
    split
    · next e => subst e; exact hx.granted heligible
    · next e =>
      obtain ⟨hin, hout, hreserved⟩ := hx
      exact ⟨hin, hout, by rw [hreserved, reservedFor, reservedFor]; simp [Ne.symm e]⟩

theorem PortsBounded.brought {s : State} (hs : PortsBounded s) (r : Request) : PortsBounded (brought r s) := by
  unfold Machine.brought
  split
  · exact hs
  · refine PortsBounded.grantNext ?_
    unfold arrived
    split
    · exact hs
    · exact hs.within (portsWithin_receiveRequest _ _ _)

/-! ### The answers -/

/-- The answer suits the request: a query or command is answered, a report at most refused (R153). -/
def AnswerFits (r : Request) : Answer → Prop
  | .nothing => r.body.posted = true
  | .response _ => r.body.posted = false
  | .refusal .. => True

/-- An application that changes the ports within their sizes and whose answer suits its request. -/
def AppFits (r : Request) (app : State → State × Answer) : Prop :=
  ∀ s, PortsWithin s (app s).1 ∧ AnswerFits r (app s).2

/-- A port with no entry reserved once the engine is free: any but the requester of a query or command. -/
theorem PortBounded.freed {r : Request} {p : Port} {b : PortBlock} (hs : PortBounded (some r) p b)
    (h : p ≠ r.port ∨ r.body.posted = true) : PortBounded none p b := by
  obtain ⟨hin, hout, hreserved⟩ := hs
  refine ⟨hin, hout, ?_⟩
  have hnot : ¬ (r.port = p ∧ r.body.posted = false) := by
    rintro ⟨rfl, hposted⟩
    obtain h | h := h
    · exact h rfl
    · rw [hposted] at h; cases h
  rw [hreserved, reservedFor, reservedFor, if_neg hnot]

/-- An answer takes the entry reserved for it (R147). -/
theorem PortBounded.answered {r : Request} {b : PortBlock} (hs : PortBounded (some r) r.port b)
    (hposted : r.body.posted = false) (m : Message) : PortBounded none r.port (b.placeReserved m) := by
  obtain ⟨hin, hout, hreserved⟩ := hs
  rw [reservedFor, if_pos ⟨rfl, hposted⟩] at hreserved
  refine ⟨hin, ?_, ?_⟩
  · simp only [PortBlock.placeReserved, List.length_append, List.length_singleton]
    omega
  · simp only [PortBlock.placeReserved, reservedFor_none]
    omega

/-- A posted request's REFUSAL takes a free entry, or none (R148). -/
theorem within_offerRefusal (b : PortBlock) (m : Message) : Within b (b.offerRefusal m) := by
  obtain ⟨h, hfree⟩ | ⟨h, -⟩ := b.offerRefusal_eq m <;> rw [h]
  · exact (offered_place hfree _).within
  · exact within_of_eq rfl rfl rfl

/-- The answer of the request in service takes its reserved entry; a report's refusal takes a free one (R147, R148). -/
theorem PortsBounded.placeAnswer {s : State} {r : Request} {a : Answer} (hs : PortsBounded s) (he : s.engine = some r)
    (ha : AnswerFits r a) : PortsBounded (placeAnswer r a { s with engine := none }) := by
  have hport (p : Port) : PortBounded (some r) p (s.port p) := he ▸ hs p
  have hone (f : PortBlock → PortBlock) (h : PortBounded none r.port (f (s.port r.port))) :
      PortsBounded (({ s with engine := none } : State).onPort r.port f) := by
    intro p
    by_cases hp : p = r.port
    · rw [hp, State.port_onPort_same]
      exact h
    · rw [State.port_onPort_of_ne _ _ hp]
      exact (hport p).freed (.inl hp)
  cases a with
  | nothing => exact fun p => (hport p).freed (.inr ha)
  | response m => exact hone _ ((hport r.port).answered ha _)
  | refusal code detail =>
    simp only [Machine.placeAnswer]
    split
    · next hposted => exact hone _ (((hport r.port).freed (.inr hposted)).within (within_offerRefusal _ _))
    · next hposted => exact hone _ ((hport r.port).answered (by simpa using hposted) _)

theorem PortsBounded.serve {s t : State} {r : Request} {app : State → State × Answer} (hs : PortsBounded s)
    (happ : AppFits r app) (h : serve r app s = .next t) : PortsBounded t := by
  obtain ⟨-, e⟩ | ⟨-, -, e⟩ | ⟨-, hengine, e⟩ := serve_eq r app s <;> rw [e] at h <;> cases h
  · exact hs
  · exact hs.brought r
  · have hb := hs.brought r
    unfold applyHeld
    dsimp only
    refine PortsBounded.within ?_ (worked_announce _ _).portsWithin
    split
    · exact hb.placeAnswer hengine trivial
    · obtain ⟨hwithin, hfits⟩ := happ (Machine.brought r s)
      exact (hb.within hwithin).placeAnswer (hwithin.1.trans hengine) hfits

theorem AppFits.withPermission {r : Request} {app : State → State × Answer} (happ : AppFits r app) (has : Perms → Bool)
    (p : Port) : AppFits r (withPermission has p app) := by
  intro s
  unfold Machine.withPermission
  split
  · exact happ s
  · exact ⟨.refl s, trivial⟩

theorem appFits_takeReport {r : Request} (hposted : r.body.posted = true) (permitted : Role → Bool) (p : Port) (number : Word)
    (lane : Octet) (check : Row → Recipe → Card → Option Code) (app : State → Row → Recipe → Card → Card) :
    AppFits r (takeReport permitted p number lane check app) := by
  intro s
  obtain ⟨code, detail, h⟩ | ⟨row, l, c, -, -, -, -, h⟩ := takeReport_eq permitted p number lane check app s <;> rw [h]
  · exact ⟨.refl s, trivial⟩
  · exact ⟨portsWithin_of_eq rfl rfl, hposted⟩

/-- A query changes nothing and is answered or refused. -/
theorem appFits_query {r : Request} {answer : State → Answer} (h : ∀ s, AnswerFits r (answer s)) : AppFits r (query answer) :=
  fun s => ⟨.refl s, h s⟩

theorem appFits_withConditions {r : Request} (conditions : Half) {app : CondSet → State → State × Answer}
    (h : ∀ c, AppFits r (app c)) : AppFits r (withConditions conditions app) := by
  intro s
  unfold withConditions
  split
  · exact h _ s
  · exact ⟨.refl s, trivial⟩

theorem appFits_start (p : Port) (tag : Octet) : AppFits ⟨p, tag, .start⟩ applyStart := by
  intro s
  unfold applyStart
  split
  · exact ⟨.refl s, rfl⟩
  · split
    · exact ⟨.refl s, trivial⟩
    · exact ⟨(portsWithin_of_eq rfl rfl).trans (portsWithin_latchOn _ _ _), rfl⟩

theorem appFits_stopForming (p : Port) (tag : Octet) : AppFits ⟨p, tag, .stopForming⟩ applyStopForming := by
  intro s
  unfold applyStopForming
  split
  · exact ⟨(portsWithin_of_eq rfl rfl).trans (portsWithin_latchOn _ _ _), rfl⟩
  · exact ⟨.refl s, rfl⟩

theorem appFits_selectRecipe (p : Port) (tag id : Octet) : AppFits ⟨p, tag, .selectRecipe id⟩ (applySelectRecipe id) := by
  intro s
  unfold applySelectRecipe
  split
  · exact ⟨.refl s, trivial⟩
  · split
    · exact ⟨portsWithin_of_eq rfl rfl, rfl⟩
    · exact ⟨.refl s, trivial⟩

theorem appFits_condemn (p : Port) (tag : Octet) (first : Word) (count mask : Octet) :
    AppFits ⟨p, tag, .condemn first count mask⟩ (applyCondemn first count mask) := by
  intro s
  unfold applyCondemn
  split
  · exact ⟨.refl s, trivial⟩
  · split
    · exact ⟨.refl s, trivial⟩
    · exact ⟨portsWithin_of_eq rfl rfl, rfl⟩

theorem appFits_stationModeSet (p : Port) (tag target mode : Octet) :
    AppFits ⟨p, tag, .stationModeSet target mode⟩ (applyStationModeSet p target mode) := by
  intro s
  unfold applyStationModeSet
  split
  · exact ⟨.refl s, trivial⟩
  · split
    · exact ⟨portsWithin_of_eq rfl rfl, rfl⟩
    · exact ⟨.refl s, trivial⟩

theorem appFits_stationWrite (p : Port) (tag target : Octet) (entry : StationArg) :
    AppFits ⟨p, tag, .stationWrite target entry⟩ (applyStationWrite target entry) := by
  intro s
  unfold applyStationWrite
  split
  · exact ⟨.refl s, trivial⟩
  · split
    · exact ⟨portsWithin_of_eq rfl rfl, rfl⟩
    · exact ⟨.refl s, trivial⟩

theorem appFits_recipeWrite (p : Port) (tag id : Octet) (recipe : RecipeArg) :
    AppFits ⟨p, tag, .recipeWrite id recipe⟩ (applyRecipeWrite id recipe) := by
  intro s
  unfold applyRecipeWrite
  split
  · exact ⟨.refl s, trivial⟩
  · split
    · exact ⟨.refl s, trivial⟩
    · split
      · exact ⟨.refl s, trivial⟩
      · split
        · exact ⟨.refl s, trivial⟩
        · exact ⟨portsWithin_of_eq rfl rfl, rfl⟩

theorem appFits_retireRead (p : Port) (tag n : Octet) : AppFits ⟨p, tag, .retireRead n⟩ (applyRetireRead n) := by
  intro s
  unfold applyRetireRead
  split
  · exact ⟨.refl s, trivial⟩
  · exact ⟨portsWithin_of_eq rfl rfl, rfl⟩

theorem appFits_purge (p : Port) (tag : Octet) : AppFits ⟨p, tag, .purge⟩ applyPurge := fun _ =>
  ⟨(portsWithin_of_eq rfl rfl).trans (portsWithin_latchOn _ _ _), rfl⟩

/-! ### The other commands -/

theorem portsWithin_stopLoad (s : State) : PortsWithin s (stopLoad s) :=
  (portsWithin_of_eq rfl rfl).trans (portsWithin_raise _ _ _)

theorem portsWithin_terminate (s : State) : PortsWithin s (terminate s) := by
  unfold terminate
  split
  · exact portsWithin_stopLoad s
  · split
    · exact portsWithin_of_eq rfl rfl
    · split
      · split
        · exact portsWithin_of_eq rfl rfl
        · exact portsWithin_stopLoad s
      · exact portsWithin_stopLoad s

theorem portsWithin_loadBlock {type : Octet} {body : List Octet} {s t : State} (h : loadBlock type body s = some t) :
    PortsWithin s t := by
  obtain ⟨a, q, e, -, rfl⟩ | ⟨id, a, -, rfl⟩ | ⟨v, rfl⟩ | ⟨a, b, c, rfl⟩ | ⟨o, rfl⟩ := loadBlock_cases h <;>
    exact portsWithin_of_eq rfl rfl

theorem portsWithin_takeBlock (octets : List Octet) (s : State) : PortsWithin s (takeBlock octets s) := by
  unfold takeBlock
  split
  · exact portsWithin_stopLoad s
  · split
    · exact portsWithin_terminate s
    · split
      · exact portsWithin_stopLoad s
      · split
        · exact portsWithin_stopLoad s
        · split
          · next h => exact (portsWithin_loadBlock h).trans (portsWithin_of_eq rfl rfl)
          · exact portsWithin_stopLoad s

theorem portsWithin_advance {s t : State} (h : execAdvance s = .next t) : PortsWithin s t := by
  have hrows : PortsWithin s (advanceRows (countIndex s)) :=
    (portsWithin_of_eq rfl rfl).trans (worked_advanceRows (countIndex s)).portsWithin
  obtain ⟨-, rfl⟩ | ⟨-, rfl⟩ | ⟨-, rfl⟩ | ⟨-, id, -, rfl⟩ := execAdvance_cases h
  · exact .refl _
  · exact portsWithin_of_eq rfl rfl
  · refine hrows.trans ?_
    unfold drainEnd
    split
    · exact (portsWithin_of_eq rfl rfl).trans (portsWithin_raise _ _ _)
    · exact .refl _
  · exact (hrows.trans (portsWithin_of_eq (t := placedRow id (advanceRows (countIndex s))) rfl rfl)).trans
      (formRow_eq id _).1.portsWithin

theorem within_heard (b : PortBlock) : Within b (heard b) := by
  unfold heard
  split
  · exact within_of_eq rfl rfl rfl
  · exact .refl b

theorem unlessHeld_bounded {f : State → State} {s t : State} (hs : PortsBounded s) (hf : PortsWithin s (f s))
    (h : unlessHeld f s = .next t) : PortsBounded t := by
  unfold unlessHeld at h
  split at h <;> cases h
  · exact hs
  · exact hs.within hf

theorem within_linkError (b : PortBlock) : Within b (latch .linkError { heard b with linkErrors := b.linkErrors + 1 }) :=
  (within_heard b).trans (within_of_eq rfl rfl rfl)

theorem portsWithin_badFrame (p : Port) (s : State) : PortsWithin s (badFrame p s) :=
  PortsWithin.trans (portsWithin_onPort (within_linkError (s.port p))) (worked_announce s _).portsWithin

theorem execFrameReceive_bounded {p : Port} {octets : List Octet} {s t : State} (hs : PortsBounded s)
    (h : execFrameReceive p octets s = .next t) : PortsBounded t := by
  refine unlessHeld_bounded hs ?_ h
  split
  · exact portsWithin_onPort (within_heard _)
  · split
    · exact portsWithin_badFrame p s
    · exact portsWithin_receiveRequest _ _ _

theorem portsWithin_acceptPulse (s : State) : PortsWithin s (acceptPulse s) := by
  refine PortsWithin.trans (t := { s with lastIndex := some s.timeTag, sinceLast := some 0, advancesDue := s.advancesDue + 1 })
    (portsWithin_of_eq rfl rfl) (portsWithin_onPorts fun p => ?_)
  split
  · exact within_offerCredit _
  · exact .refl _

theorem execIndexPulse_bounded {s t : State} (hs : PortsBounded s) (h : execIndexPulse s = .next t) : PortsBounded t := by
  refine unlessHeld_bounded hs ?_ h
  split
  · exact .refl s
  · split
    · exact portsWithin_acceptPulse s
    · split
      · exact portsWithin_acceptPulse s
      · exact (portsWithin_of_eq rfl rfl).trans (portsWithin_raise _ _ _)

theorem portsWithin_startSending (p : Port) (m : Message) (s : State) : PortsWithin s (startSending p m s) :=
  PortsWithin.trans (t := s.onPort p fun b => { b with sending := some (stampFrame s p m), credit := b.inboundFree })
    (portsWithin_onPort (within_of_eq rfl rfl rfl)) (portsWithin_of_eq rfl rfl)

theorem execFrameSendStart_bounded {p : Port} {s t : State} (hs : PortsBounded s) (h : execFrameSendStart p s = .next t) :
    PortsBounded t := by
  refine unlessHeld_bounded hs ?_ h
  split
  · split
    · exact portsWithin_startSending _ _ _
    · exact .refl s
  · exact .refl s

theorem execFrameSendComplete_bounded {p : Port} {s t : State} (hs : PortsBounded s)
    (h : execFrameSendComplete p s = .next t) : PortsBounded t := by
  unfold execFrameSendComplete unlessHeld at h
  split at h <;> cases h
  · exact hs
  · beta_reduce
    split
    · intro q
      rw [State.port_onPort]
      split
      · next e => subst e; exact (hs _).finishSending
      · exact hs q
    · exact hs

theorem within_quietTick (b : PortBlock) : Within b (quietTick b) := by
  unfold quietTick
  split
  · exact within_of_eq rfl rfl rfl
  · exact .refl b

theorem execTimeTagTick_bounded {s t : State} (hs : PortsBounded s) (h : execTimeTagTick s = .next t) : PortsBounded t := by
  refine unlessHeld_bounded hs ?_ h
  exact PortsWithin.trans (t := s.onPorts fun _ b => quietTick b) (portsWithin_onPorts fun p => within_quietTick _)
    (portsWithin_of_eq rfl rfl)

theorem execAutoloadSignatureRead_bounded {octets : List Octet} {s t : State} (hs : PortsBounded s)
    (h : execAutoloadSignatureRead octets s = .next t) : PortsBounded t := by
  refine unlessHeld_bounded hs ?_ h
  split
  · split <;> exact portsWithin_of_eq rfl rfl
  · exact .refl s

theorem portBounded_default (p : Port) : PortBounded none p PortBlock.default :=
  ⟨Nat.zero_le _, Nat.zero_le _, rfl⟩

/-- Every command keeps the ports' queues within their sizes. -/
theorem exec_portsBounded {c : Instr} {s t : State} (hs : PortsBounded s) (h : exec c s = .next t) : PortsBounded t := by
  cases c
  case masterReset =>
    cases h
    intro p
    change PortBounded none p ((PerPort.all PortBlock.default).get p)
    rw [PerPort.get_all]
    exact portBounded_default p
  case resetRelease =>
    change execResetRelease s = .next t at h
    unfold execResetRelease at h
    split at h <;> cases h <;> exact hs
  case autoloadSignatureRead => exact execAutoloadSignatureRead_bounded hs h
  case autoloadBlockRead octets =>
    refine unlessHeld_bounded hs ?_ h
    split
    · exact portsWithin_takeBlock octets s
    · exact .refl s
  case autoloadTerminator =>
    refine unlessHeld_bounded hs ?_ h
    split
    · exact portsWithin_terminate s
    · exact .refl s
  case indexPulse => exact execIndexPulse_bounded hs h
  case advance => exact hs.within (portsWithin_advance h)
  case frameReceive => exact execFrameReceive_bounded hs h
  case linkDown p =>
    refine unlessHeld_bounded hs ?_ h
    split
    · exact PortsWithin.trans (t := s.onPort p downBlock) (portsWithin_onPort (within_downBlock _)) (portsWithin_of_eq rfl rfl)
    · exact .refl s
  case frameSendStart => exact execFrameSendStart_bounded hs h
  case frameSendComplete => exact execFrameSendComplete_bounded hs h
  case arbiterGrant =>
    change unlessHeld grantNext s = .next t at h
    unfold unlessHeld at h
    split at h <;> cases h
    · exact hs
    · exact hs.grantNext
  case timeTagTick => exact execTimeTagTick_bounded hs h
  case idleFillReceive p =>
    change unlessHeld (fun s => s.onPort p heard) s = .next t at h
    exact unlessHeld_bounded hs (portsWithin_onPort (within_heard _)) h
  case formResult | placement | inspection | sealHit | discharge =>
    exact hs.serve (appFits_takeReport rfl _ _ _ _ _ _) h
  case start => exact hs.serve ((appFits_start _ _).withPermission _ _) h
  case stopForming => exact hs.serve ((appFits_stopForming _ _).withPermission _ _) h
  case selectRecipe => exact hs.serve ((appFits_selectRecipe _ _ _).withPermission _ _) h
  case purge => exact hs.serve ((appFits_purge _ _).withPermission _ _) h
  case condemn => exact hs.serve ((appFits_condemn _ _ _ _ _).withPermission _ _) h
  case releaseHold p tag =>
    exact hs.serve (AppFits.withPermission (r := ⟨p, tag, .releaseHold⟩)
      (fun s => ⟨portsWithin_of_eq (by rfl) (by rfl), by rfl⟩) _ _) h
  case stationModeSet => exact hs.serve (appFits_stationModeSet _ _ _ _) h
  case stationWrite => exact hs.serve ((appFits_stationWrite _ _ _ _).withPermission _ _) h
  case recipeWrite => exact hs.serve ((appFits_recipeWrite _ _ _ _).withPermission _ _) h
  case indexIntervalSet p tag v =>
    exact hs.serve (AppFits.withPermission (r := ⟨p, tag, .indexIntervalSet v⟩)
      (fun s => ⟨portsWithin_of_eq (by rfl) (by rfl), by rfl⟩) _ _) h
  case traceLevelsSet p tag n k =>
    exact hs.serve (AppFits.withPermission (r := ⟨p, tag, .traceLevelsSet n k⟩)
      (fun s => ⟨portsWithin_of_eq (by rfl) (by rfl), by rfl⟩) _ _) h
  case arbiterWrite p tag phases =>
    exact hs.serve (AppFits.withPermission (r := ⟨p, tag, .arbiterWrite phases⟩)
      (fun s => ⟨portsWithin_of_eq (by rfl) (by rfl), by rfl⟩) _ _) h
  case retireRead => exact hs.serve ((appFits_retireRead _ _ _).withPermission _ _) h
  case lineStatus | traceStatus | arbiterRead | attnStatusRead => exact hs.serve (appFits_query fun s => by rfl) h
  case stationRead =>
    refine hs.serve (appFits_query fun s => ?_) h
    unfold stationAnswer
    split
    · exact rfl
    · split
      · exact rfl
      · exact trivial
  case recipeRead =>
    refine hs.serve (appFits_query fun s => ?_) h
    unfold recipeAnswer
    split
    · exact rfl
    · exact trivial
  case cardQuery =>
    refine hs.serve (appFits_query fun s => ?_) h
    unfold cardAnswer
    split
    · exact trivial
    · split
      · exact trivial
      · exact rfl
  case rowQuery =>
    refine hs.serve (appFits_query fun s => ?_) h
    unfold rowAnswer
    split
    · exact trivial
    · split
      · exact trivial
      · exact rfl
  case countersRead =>
    refine hs.serve (appFits_query fun s => ?_) h
    unfold countersAnswer
    split
    · exact rfl
    · exact trivial
  case attnEnableSet | attnEnableClear | attnClear =>
    exact hs.serve (appFits_withConditions _ fun c s => ⟨portsWithin_onPort (within_of_eq (by rfl) (by rfl) (by rfl)), by rfl⟩) h

/-! ### The trace queue -/

/-- The trace queue within its size (R132). -/
def TraceBounded (s : State) : Prop := s.trace.length ≤ Config.traceSize

theorem TraceBounded.sameButPorts {s t : State} (hs : TraceBounded s) (h : SameButPorts s t) : TraceBounded t := by
  obtain ⟨v, e, i, n, rfl⟩ := h
  exact hs

theorem traceBounded_effect {c : Instr} {s t : State} (h : Effect s c t) (hs : TraceBounded s) : TraceBounded t := by
  have hrows : TraceBounded (advanceRows (countIndex s)) := by
    obtain ⟨records, hoffered, -, -⟩ := recordsOffered_advanceRows (countIndex s)
    exact hoffered.bounded hs
  cases h with
  | masterReset => exact Nat.zero_le _
  | block octets type body s1 address loading good =>
    obtain ⟨a, q, e, -, rfl⟩ | ⟨id, a, -, rfl⟩ | ⟨v, rfl⟩ | ⟨a, b, c, rfl⟩ | ⟨o, rfl⟩ := loadBlock_cases good <;> exact hs
  | advancedInDrain =>
    obtain ⟨v, e, i, n, h⟩ | ⟨-, v, e, i, n, h⟩ := drainEnd_sameButPorts (countIndex s) (advanceRows (countIndex s)) <;>
      exact h ▸ hrows
  | advancedInRun id =>
    exact TraceBounded.sameButPorts (s := placedRow id (advanceRows (countIndex s))) hrows (formRow_eq _ _).2
  | retireRead => exact (List.drop_sublist _ _).length_le.trans hs
  | _ => exact hs

theorem queuesBounded_iff {s : State} : QueuesBounded s ↔ PortsBounded s ∧ TraceBounded s := Iff.rfl

/-- Settles O51: a grant reserves the entry its answer takes, every other offer asks for a free one, and a record joins the
trace queue only where it has room. -/
theorem queuesStayBounded : Obligations.QueuesStayBounded := by
  intro s t hs h
  obtain ⟨hports, htrace⟩ := queuesBounded_iff.mp hs
  refine queuesBounded_iff.mpr ⟨?_, step_induction (P := TraceBounded) htrace (fun _ _ h => h)
    (fun _ _ h hs => hs.sameButPorts h) (fun _ _ _ h hs => traceBounded_effect h hs) h⟩
  obtain rfl | ⟨c, rest, h⟩ := step_cases h
  · exact hports
  · exact exec_portsBounded (s := { s with pending := rest }) hports h

end Sys2Proof.Machine

/-! ## Rules over all commands: what only some commands change, and condemnations that last -/

namespace Sys2Proof.Machine

/-! ### Rules over all commands -/

/-- The rules that a command `c` taking `s` to `t` obeys whatever it is (chapters 1, 2, 3, 7 and 8). -/
structure Obeys (c : Instr) (s t : State) : Prop where
  line : mayChangeLine c = false → t.line = s.line
  trace : mayShortenTrace c = false → ∃ records, t.trace = s.trace ++ records
  fault : mayClearFault c = false → ∀ f, s.fault = some f → t.fault = some f
  stations : mayWriteStations c = false → SamePlan s t
  recipes : c ≠ .masterReset → s.load = .ready → ∀ id, s.useCount id ≠ 0 → t.recipe id = s.recipe id
  pending : t.pending = s.pending

theorem Obeys.sameButPorts {c : Instr} {s t u : State} (h : Obeys c s t) (k : SameButPorts t u) : Obeys c s u := by
  obtain ⟨v, e, i, n, rfl⟩ := k
  exact ⟨h.line, h.trace, h.fault, h.stations, h.recipes, h.pending⟩

/-- A change of fields that none of the rules names. -/
theorem obeys_of_eq (c : Instr) {s t : State} (h1 : t.line = s.line) (h2 : t.trace = s.trace) (h3 : t.fault = s.fault)
    (h4 : t.stations = s.stations) (h5 : t.recipes = s.recipes) (h6 : t.pending = s.pending) : Obeys c s t :=
  ⟨fun _ => h1, fun _ => ⟨[], by simp [h2]⟩, fun _ _ hf => h3.trans hf, fun _ => samePlan_of_eq h4,
    fun _ _ id _ => by rw [State.recipe, State.recipe, h5], h6⟩

/-- The row work changes no line state, table or queue of commands, and only adds records and sets the latch. -/
theorem obeys_advanceRows (s : State) : Obeys .advance s (advanceRows (countIndex s)) := by
  have hw := worked_advanceRows (countIndex s)
  obtain ⟨records, hoffered, -, -⟩ := recordsOffered_advanceRows (countIndex s)
  obtain ⟨joined, htrace, -⟩ := hoffered.trace
  exact ⟨fun _ => hw.line_eq, fun _ => ⟨joined, htrace⟩, fun _ => hoffered.fault, fun _ => samePlan_of_eq hw.stations_eq,
    fun _ _ id _ => hw.recipe_eq id, hw.pending_eq⟩

/-- A change of the line state alone, by a command that may change it. -/
theorem Obeys.withLine {c : Instr} {s t : State} (h : Obeys c s t) (hc : mayChangeLine c = true) (line : LineState) :
    Obeys c s { t with line := line } :=
  ⟨fun hn => (by rw [hc] at hn; cases hn), h.trace, h.fault, h.stations, h.recipes, h.pending⟩

theorem obeys_effect {c : Instr} {s t : State} (h : Effect s c t) : Obeys c s t := by
  have hrows := obeys_advanceRows s
  have hload {octets : List Octet} (loading : s.load = .loading)
      (hc : c = .autoloadTerminator ∨ ∃ octets, c = .autoloadBlockRead octets) {t : State} (h1 : t.line = s.line)
      (h2 : t.trace = s.trace) (h3 : t.fault = s.fault) (h6 : t.pending = s.pending) : Obeys c s t := by
    refine ⟨fun _ => h1, fun _ => ⟨[], by simp [h2]⟩, fun _ _ hf => h3.trans hf, fun hw => ?_, fun _ hready => ?_, h6⟩
    · obtain rfl | ⟨_, rfl⟩ := hc <;> cases hw
    · rw [loading] at hready; cases hready
  cases h with
  | masterReset =>
    exact ⟨fun h => (by cases h), fun h => (by cases h), fun h => (by cases h), fun h => (by cases h), fun h => absurd rfl h, rfl⟩
  | block octets type body s1 address loading good =>
    obtain ⟨a, q, e, -, rfl⟩ | ⟨id, a, -, rfl⟩ | ⟨v, rfl⟩ | ⟨a, b, c, rfl⟩ | ⟨o, rfl⟩ := loadBlock_cases good <;>
      exact hload (octets := octets) loading (.inr ⟨_, rfl⟩) rfl rfl rfl rfl
  | loadStops _ loading hc => exact hload (octets := []) loading hc rfl rfl rfl rfl
  | advancedInDrain =>
    obtain h | ⟨-, h⟩ := drainEnd_sameButPorts (countIndex s) (advanceRows (countIndex s))
    · exact hrows.sameButPorts h
    · exact (hrows.withLine rfl .idle).sameButPorts h
  | advancedInRun id =>
    have hplaced : Obeys .advance s (placedRow id (advanceRows (countIndex s))) :=
      ⟨hrows.line, hrows.trace, hrows.fault, hrows.stations, hrows.recipes, hrows.pending⟩
    exact hplaced.sameButPorts (formRow_eq id _).2
  | start p tag =>
    exact (obeys_of_eq (.start p tag) (s := s) (t := { s with exitOffset := startExit s, sealOffset := lowestSeal s })
      rfl rfl rfl rfl rfl rfl).withLine rfl .run
  | stopForming p tag => exact (obeys_of_eq (.stopForming p tag) (t := s) rfl rfl rfl rfl rfl rfl).withLine rfl _
  | purge p tag =>
    exact (obeys_of_eq (.purge p tag) (s := s) (t := { s with
      rows := [], cardsPurged := s.cardsPurged + BitVec.ofNat 32 (cardsOnMap s.rows)
      useCounts := Vector.replicate 16 0, exitOffset := none, sealOffset := none }) rfl rfl rfl rfl rfl rfl).withLine rfl .idle
  | releaseHold =>
    exact ⟨fun _ => rfl, fun _ => ⟨[], (List.append_nil _).symm⟩, fun h => (by cases h), fun _ => samePlan_of_eq rfl,
      fun _ _ _ _ => rfl, rfl⟩
  | retireRead =>
    exact ⟨fun _ => rfl, fun h => (by cases h), fun _ _ hf => hf, fun _ => samePlan_of_eq rfl, fun _ _ _ _ => rfl, rfl⟩
  | linkDown | stationModeSet =>
    exact ⟨fun _ => rfl, fun _ => ⟨[], (List.append_nil _).symm⟩, fun _ _ hf => hf, fun _ => samePlan_setMode s _ _,
      fun _ _ _ _ => rfl, rfl⟩
  | stationWrite =>
    exact ⟨fun _ => rfl, fun _ => ⟨[], (List.append_nil _).symm⟩, fun _ _ hf => hf, fun h => (by cases h),
      fun _ _ _ _ => rfl, rfl⟩
  | recipeWrite p tag o recipe id unused =>
    refine ⟨fun _ => rfl, fun _ => ⟨[], (List.append_nil _).symm⟩, fun _ _ hf => hf, fun _ => samePlan_of_eq rfl,
      fun _ _ j hj => ?_, rfl⟩
    rw [State.recipe_setRecipe, if_neg]
    rintro rfl
    exact hj unused
  | _ => exact obeys_of_eq _ rfl rfl rfl rfl rfl rfl

theorem exec_obeys {c : Instr} {s t : State} (h : exec c s = .next t) : Obeys c s t := by
  obtain ⟨u, hu, hut⟩ := exec_effects h
  exact (obeys_effect hu).sameButPorts hut

/-- Settles O49: each effect by itself, and HOLD by its two causes. -/
theorem wholeMachineRules : Obligations.WholeMachineRules := by
  refine ⟨fun c s t h => ?_, fun s => ?_⟩
  · obtain ⟨hline, htrace, hfault, hstations, hrecipes, hpending⟩ := exec_obeys h
    exact ⟨hline, htrace, hfault, hstations, hrecipes, hpending⟩
  · rw [State.hold, Bool.or_eq_true]
    exact or_congr decide_eq_true_iff Option.isSome_iff_ne_none

/-! ### A condemnation lasts -/

/-- A reason once set is kept, with its station and offset. -/
def ReasonKept (c d : Card) : Prop :=
  ∀ x, c.reason = some x → d.reason = some x ∧ d.station = c.station ∧ d.condemnOffset = c.condemnOffset

theorem ReasonKept.refl (c : Card) : ReasonKept c c := fun _ h => ⟨h, rfl, rfl⟩

theorem ReasonKept.trans {a b c : Card} (h : ReasonKept a b) (k : ReasonKept b c) : ReasonKept a c := fun x hx => by
  obtain ⟨h1, h2, h3⟩ := h x hx
  obtain ⟨k1, k2, k3⟩ := k x h1
  exact ⟨k1, k2.trans h2, k3.trans h3⟩

theorem CondemnedAtMost.reasonKept {c d : Card} (h : CondemnedAtMost c d) : ReasonKept c d := by
  intro x hx
  have hkept : judgement d = judgement c := by
    obtain h | ⟨y, p, o, h⟩ := h
    · exact h
    · rw [h, Card.condemn_of_condemned (by rw [hx]; simp)]
  obtain ⟨-, -, hreason, hstation, hoffset, -, -⟩ := judgement_eq_iff.mp hkept
  exact ⟨hreason.trans hx, hstation, hoffset⟩

theorem CardWork.reasonKept {s : State} {row : Row} {c d : Card} (h : CardWork s row c d) : ReasonKept c d := by
  cases h with
  | close => exact (condemnedAtMost_closeCard _ _ _ _ _).reasonKept
  | order => exact CondemnedAtMost.reasonKept (.inl (judgement_orderCard _ _ _ _ _))
  | judge =>
    intro x hx
    unfold judgeCard
    dsimp only
    split
    · rw [Card.condemn_of_condemned (by rw [hx]; simp)]
      split <;> exact ⟨hx, rfl, rfl⟩
    · split <;> exact ⟨hx, rfl, rfl⟩
  | inhibit => unfold inhibitCard; split <;> exact fun x hx => ⟨hx, rfl, rfl⟩
  | freeze =>
    intro x hx
    unfold freezeCard
    dsimp only
    split
    · rw [Card.condemn_of_condemned (by rw [hx]; simp)]
      exact ⟨hx, rfl, rfl⟩
    · exact ⟨hx, rfl, rfl⟩

theorem CardWorked.reasonKept {s : State} {row : Row} {c d : Card} (h : CardWorked s row c d) : ReasonKept c d := by
  induction h with
  | refl => exact .refl _
  | tail _ hw ih => exact ih.trans hw.reasonKept

/-- A row after a command is one of the rows before, its condemned cards' reasons kept, or one just formed. -/
def RowsKeepReasons (s t : State) : Prop :=
  ∀ row' ∈ t.rows,
    (∃ row ∈ s.rows, row'.number = row.number ∧ ∀ d ∈ row'.cards, ∃ c ∈ row.cards, d.lane = c.lane ∧ ReasonKept c d)
      ∨ row'.number = s.indexCount + 1

theorem rowsKeepReasons_of_eq {s t : State} (h : t.rows = s.rows) : RowsKeepReasons s t := fun row hrow =>
  .inl ⟨row, h ▸ hrow, rfl, fun d hd => ⟨d, hd, rfl, .refl d⟩⟩

theorem RowsCondemnedAtMost.rowsKeepReasons {s t : State} (h : RowsCondemnedAtMost s.rows t.rows) : RowsKeepReasons s t := by
  intro row' hrow'
  obtain ⟨row, hrow, hkey, hfrom⟩ := h row' hrow'
  refine .inl ⟨row, hrow, congrArg (·.1) hkey, fun d hd => ?_⟩
  obtain ⟨c, hc, hcond⟩ := hfrom d hd
  exact ⟨c, hc, hcond.lane_eq, hcond.reasonKept⟩

theorem rowsKeepReasons_advanceRows (s : State) : RowsKeepReasons s (advanceRows (countIndex s)) := by
  intro row' hrow'
  obtain ⟨row, hrow, -, f, rfl, hf⟩ := mem_advanceRows hrow'
  refine .inl ⟨row, hrow, rfl, fun d hd => ?_⟩
  obtain ⟨c, hc, rfl⟩ := List.mem_map.mp hd
  exact ⟨c, hc, congrArg (·.1) (hf c).sealKey_eq, (hf c).reasonKept⟩

theorem rowsKeepReasons_effect {c : Instr} {s t : State} (h : Effect s c t) : RowsKeepReasons s t := by
  have hrows := rowsKeepReasons_advanceRows s
  cases h with
  | masterReset | purge => exact fun _ hrow => absurd hrow List.not_mem_nil
  | block octets type body s1 address loading good =>
    obtain ⟨a, q, e, -, rfl⟩ | ⟨id, a, -, rfl⟩ | ⟨v, rfl⟩ | ⟨a, b, c, rfl⟩ | ⟨o, rfl⟩ := loadBlock_cases good <;>
      exact rowsKeepReasons_of_eq rfl
  | advancedInDrain =>
    obtain ⟨v, e, i, n, h⟩ | ⟨-, v, e, i, n, h⟩ := drainEnd_sameButPorts (countIndex s) (advanceRows (countIndex s)) <;>
      exact h ▸ hrows
  | advancedInRun id =>
    obtain ⟨v, e, i, n, h⟩ := (formRow_eq id (advanceRows (countIndex s))).2
    rw [h]
    intro row hrow
    obtain hrow | hrow := List.mem_append.mp hrow
    · exact hrows row hrow
    · rw [List.mem_singleton.mp hrow]
      exact .inr (worked_advanceRows (countIndex s)).indexCount_eq
  | report c p number lane permitted check app row l card held ready kind =>
    exact RowsCondemnedAtMost.rowsKeepReasons (rowsCondemnedAtMost_report kind s row _ l s.rows)
  | condemn p tag first count mask =>
    exact RowsCondemnedAtMost.rowsKeepReasons (rowsCondemnedAtMost_condemn first count mask s.rows)
  | _ => exact rowsKeepReasons_of_eq rfl

/-- On a sound map no row has the number of the next row to be formed. -/
theorem MapSound.number_ne {s : State} (hs : MapSound s) {row : Row} (hrow : row ∈ s.rows) :
    row.number ≠ s.indexCount + 1 := by
  have hline : s.line ≠ .idle := fun h => by rw [hs.2.1 h] at hrow; cases hrow
  obtain ⟨⟨e, -, -, he63, hbelow⟩, -, hnumbered⟩ := hs.rowsSound hline
  intro h
  have hlow := hbelow row hrow
  have hindex := hnumbered row hrow
  rw [h] at hindex
  have : BitVec.ofNat 32 (row.offset + 1) = 0 := by
    rw [BitVec.ofNat_add]
    change BitVec.ofNat 32 row.offset + 1 = 0
    linear_combination hindex
  have := congrArg BitVec.toNat this
  simp only [BitVec.toNat_ofNat] at this
  have hzero : (0 : BitVec 32).toNat = 0 := rfl
  omega

theorem exec_keepsReasons {i : Instr} {s t : State} (hmap : MapSound s) (hlanes : OneCardPerLane s)
    (h : exec i s = .next t) {row row' : Row} (hrow : row ∈ s.rows) (hrow' : row' ∈ t.rows) {c c' : Card}
    (hc : c ∈ row.cards) (hc' : c' ∈ row'.cards) (hn : row'.number = row.number) (hl : c'.lane = c.lane) : ReasonKept c c' := by
  obtain ⟨u, hu, v, e, j, n, rfl⟩ := exec_effects h
  obtain ⟨x, hx, hxn, hfrom⟩ | hnew := rowsKeepReasons_effect hu row' hrow'
  · obtain ⟨d, hd, hdl, hkept⟩ := hfrom c' hc'
    have hxrow : x = row := hmap.row_unique hx hrow (hxn.symm.trans hn)
    subst hxrow
    have hdc : d = c := List.inj_on_of_nodup_map (hlanes x hrow) hd hc (hdl.symm.trans hl)
    exact hdc ▸ hkept
  · exact absurd (hn.symm.trans hnew) (hmap.number_ne hrow)

/-- Settles O50: a condemnation by its two cases, and its lasting by what every effect makes of the rows. -/
theorem condemnationSetOnce : Obligations.CondemnationSetOnce := by
  refine ⟨fun c reason station o => ⟨fun hr hs => Card.condemn_of_uncondemned hr hs _ _ _,
    fun hr => Card.condemn_of_condemned hr _ _ _, fun hs => if_neg fun h => h.2 hs⟩, ?_⟩
  intro i s t hmap hlanes h row hrow c hc row' hrow' c' hc' hn hl
  exact exec_keepsReasons hmap hlanes h hrow hrow' hc hc' hn hl

end Sys2Proof.Machine

/-! ## The advance in order, and what it does to the map -/

namespace Sys2Proof.Machine

/-! ### The command -/

theorem advanceRows_countIndex (s : State) :
    advanceRows (countIndex s) = (s.rows.map moved).foldl takeRow { s with
      rows := [], advancesDue := s.advancesDue - 1, indexCount := s.indexCount + 1 } := rfl

theorem execAdvance_idle {s : State} (hr : s.resetHeld = false) (hd : 0 < s.advancesDue) (hl : s.line = .idle) :
    execAdvance s = .next (countIndex s) := by
  have hgo : ¬ (s.resetHeld = true ∨ s.advancesDue = 0) := by simp [hr]; omega
  simp only [execAdvance, if_neg hgo, hl]

theorem execAdvance_run_selected {s : State} {id : RecipeId} (hr : s.resetHeld = false) (hd : 0 < s.advancesDue)
    (hl : s.line = .run) (hid : s.selected = some id) :
    execAdvance s = .next (formRow id (advanceRows (countIndex s))) := by
  have hgo : ¬ (s.resetHeld = true ∨ s.advancesDue = 0) := by simp [hr]; omega
  simp only [execAdvance, if_neg hgo, hl, hid]

/-! ### The closes of a row -/

/-- The closes that a card of a row takes at the row's offset from the ports of a list, in its order (R15). -/
def closedCard (s : State) (row : Row) (l : List Port) (c : Card) : Card :=
  (l.filter fun p => closesAt (s.station p) row.offset).foldl (fun c p => closeCard s p (s.recipe row.recipe) row.offset c) c

theorem foldl_closes (s : State) (l : List Port) (row : Row) :
    l.foldl (fun row p => if closesAt (s.station p) row.offset then
        { row with cards := row.cards.map (closeCard s p (s.recipe row.recipe) row.offset) } else row) row
      = { row with cards := row.cards.map (closedCard s row l) } := by
  induction l generalizing row with
  | nil => simp [show closedCard s row [] = id from rfl]
  | cons p l ih =>
    rw [List.foldl_cons, ih]
    by_cases h : closesAt (s.station p) row.offset = true
    · simp [h, closedCard, Function.comp_def]
    · simp [h, closedCard]

theorem closeRow_eq (s : State) (row : Row) :
    closeRow s row = { row with cards := row.cards.map (closedCard s row Port.all) } := foldl_closes s Port.all row

/-! ### The arrivals of a row -/

theorem arriveAt_offline {s : State} {p : Port} {row : Row} (h : (s.station p).role.onLine = false) :
    arriveAt p row s = (row, s) := by
  unfold arriveAt
  cases hrole : (s.station p).role <;> simp only [hrole, Role.onLine] at h ⊢ <;> cases h

theorem arriveAt_stations_eq (p : Port) (row : Row) (s : State) : (arriveAt p row s).2.stations = s.stations :=
  (worked_arriveAt p row s).stations_eq

/-- Arrivals at ports none of which has a station of the line at the row's offset do nothing. -/
theorem foldl_arrive_elsewhere {s : State} {l : List Port} {x : Row × State} (hst : x.2.stations = s.stations)
    (h : ∀ q ∈ l, (s.station q).role.onLine = true → (s.station q).offset ≠ x.1.offset) :
    l.foldl (fun x p => if (s.station p).offset = x.1.offset then arriveAt p x.1 x.2 else x) x = x := by
  induction l with
  | nil => rfl
  | cons q l ih =>
    rw [List.foldl_cons]
    have hq : (if (s.station q).offset = x.1.offset then arriveAt q x.1 x.2 else x) = x := by
      split
      · next ho =>
        refine arriveAt_offline ?_
        by_contra hline
        rw [Bool.not_eq_false, State.station, hst] at hline
        exact h q List.mem_cons_self hline ho
      · rfl
    rw [hq]
    exact ih fun p hp => h p (List.mem_cons_of_mem _ hp)

theorem arriveAt_offset (p : Port) (row : Row) (s : State) : (arriveAt p row s).1.offset = row.offset :=
  congrArg (·.2.1) (rowKey_arriveAt p row s)

/-- A row that meets one station of the line takes that arrival and no other (R15, R16). -/
theorem arriveRow_one {s : State} {p : Port} {row : Row} (here : (s.station p).offset = row.offset)
    (alone : ∀ q, q ≠ p → (s.station q).role.onLine = true → (s.station q).offset ≠ row.offset) :
    arriveRow row s = arriveAt p row s := by
  obtain ⟨before, after, hall⟩ := List.append_of_mem (show p ∈ Port.all by cases p <;> simp [Port.all])
  have hnodup := Port.all_nodup
  rw [hall, List.nodup_middle, List.nodup_cons, List.mem_append, not_or] at hnodup
  obtain ⟨⟨hbefore, hafter⟩, -⟩ := hnodup
  unfold arriveRow
  rw [hall, List.foldl_append, List.foldl_cons,
    foldl_arrive_elsewhere (s := s) (x := (row, s)) rfl fun q hq => alone q fun e => hbefore (e ▸ hq), if_pos here]
  refine foldl_arrive_elsewhere (arriveAt_stations_eq p row s) fun q hq => ?_
  rw [arriveAt_offset]
  exact alone q fun e => hafter (e ▸ hq)

theorem arriveRow_none {s : State} {row : Row}
    (h : ∀ q, (s.station q).role.onLine = true → (s.station q).offset ≠ row.offset) : arriveRow row s = (row, s) :=
  foldl_arrive_elsewhere rfl fun q _ => h q

/-! ### Formation -/

theorem ports_rising : Port.all.Pairwise (fun p q => portNat p < portNat q) := by decide

/-- The first port with a role is the lowest. -/
theorem head_portsWith {s : State} {role : Role} {p : Port} (hp : (s.station p).role = role)
    (hlow : ∀ q, (s.station q).role = role → portNat p ≤ portNat q) : (s.portsWith role).head? = some p := by
  have hmem : p ∈ s.portsWith role := mem_portsWith.mpr hp
  have hrising : (s.portsWith role).Pairwise (fun p q => portNat p < portNat q) := ports_rising.sublist List.filter_sublist
  cases hl : s.portsWith role with
  | nil => rw [hl] at hmem; cases hmem
  | cons q l =>
    rw [hl] at hmem hrising
    have hq : (s.station q).role = role := mem_portsWith.mp (by rw [hl]; exact List.mem_cons_self)
    obtain rfl | hp' := List.mem_cons.mp hmem
    · rfl
    · have := List.rel_of_pairwise_cons hrising hp'
      have := hlow q hq
      omega

theorem placedRow_eq {s : State} {id : RecipeId} {formed : Word} (h : s.lastIndex = some formed) :
    placedRow id s = { s with
      rows := s.rows ++ [⟨s.indexCount, 0, id, (s.recipe id).laneMask, formed,
        (lanesOf (s.recipe id).laneMask).map fun l => Card.fresh l (s.recipe id).cavities.length⟩]
      cardsFormed := s.cardsFormed + BitVec.ofNat 32 (lanesOf (s.recipe id).laneMask).length
      useCounts := s.useCounts.set id.val (s.useCount id + 1) id.isLt } := by
  simp only [placedRow, State.setUseCount, formedRow, h, Option.getD_some, List.length_map]
  rfl

theorem formRow_of_port {s : State} {id : RecipeId} {formed : Word} (h : s.lastIndex = some formed) {p : Port}
    (hp : (s.portsWith .form).head? = some p) :
    formRow id s = (offerBrief p (.form s.indexCount id (s.recipe id).laneMask (s.recipe id).cavities.length formed)
      (placedRow id s)).2 := by
  have hp' : ((placedRow id s).portsWith .form).head? = some p := hp
  unfold formRow
  dsimp only
  change (match ((placedRow id s).portsWith .form).head? with
    | some p => (offerBrief p _ (placedRow id s)).2
    | none => placedRow id s) = _
  rw [hp']
  simp only [formedRow, h, Option.getD_some]
  rfl

theorem formRow_of_none {s : State} {id : RecipeId} (hp : (s.portsWith .form).head? = none) :
    formRow id s = placedRow id s := by
  have hp' : ((placedRow id s).portsWith .form).head? = none := hp
  unfold formRow
  dsimp only
  change (match ((placedRow id s).portsWith .form).head? with
    | some p => (offerBrief p _ (placedRow id s)).2
    | none => placedRow id s) = _
  rw [hp']

/-- Settles O15: the command by the line state, one row by its closes, arrivals and exit, and formation by its port. -/
theorem rowWorkInOrder : Obligations.RowWorkInOrder := by
  refine ⟨fun s hr hd => ⟨fun hl => execAdvance_idle hr hd hl, fun taken htaken => ?_⟩, fun s row => ?_⟩
  · rw [← advanceRows_countIndex] at htaken
    subst htaken
    refine ⟨fun hl hkept => ?_, fun hl hrows hempty => ?_, fun id hl hid => execAdvance_run_selected hr hd hl hid⟩
    · refine (execAdvance_drain hr hd hl).trans (congrArg _ (if_neg fun h => ?_))
      obtain hkept | hkept := hkept
      · exact h.1 hkept
      · exact hkept h.2
    · exact (execAdvance_drain hr hd hl).trans (congrArg _ (drainEnd_of_emptied hrows hempty))
  · refine ⟨fun closing hclosing => hclosing ▸ closeRow_eq s row, fun p here alone => arriveRow_one here alone,
      fun h => arriveRow_none h, fun hexit => if_pos hexit, fun hexit => if_neg hexit, fun id formed hformed => ?_⟩
    dsimp only
    rw [← placedRow_eq hformed]
    refine ⟨fun p hp hlow => formRow_of_port hformed (head_portsWith hp hlow), fun hnone => formRow_of_none ?_⟩
    rw [List.head?_eq_none_iff, List.eq_nil_iff_forall_not_mem]
    exact fun p hp => hnone p (mem_portsWith.mp hp)

/-! ### What an advance leaves alone -/

theorem Offered.advanceKeeps {b c : PortBlock} (h : Offered b c) :
    c.link = b.link ∧ c.quiet = b.quiet ∧ c.inbound = b.inbound ∧ c.reserved = b.reserved ∧ c.sending = b.sending ∧
      c.credit = b.credit ∧ c.enables = b.enables ∧ c.linkErrors = b.linkErrors ∧
      c.inboundOverruns = b.inboundOverruns ∧ c.refusalLost = b.refusalLost :=
  ⟨h.link, h.quiet, h.inbound, h.reserved, h.sending, h.credit, h.enables, h.linkErrors, h.inboundOverruns, h.refusalLost⟩

theorem Worked.advanceKeeps {s t : State} (h : Worked s t) : AdvanceKeeps s t := by
  obtain ⟨⟨w, hw⟩, hp⟩ := h
  refine ⟨?_, ?_, ?_, ?_, ?_, ?_, ?_, ?_, ?_, ?_, ?_, ?_, ?_, ?_, ?_, ?_, ?_, ?_, ?_, ?_, ?_, ?_, ?_, fun p => (hp p).advanceKeeps⟩ <;>
    rw [hw] <;> rfl

theorem AdvanceKeeps.of_eq {s t u : State} (h : AdvanceKeeps s t) (he : ∃ line due index rows formed uses,
    u = { t with line := line, advancesDue := due, indexCount := index, rows := rows, cardsFormed := formed, useCounts := uses }) :
    AdvanceKeeps s u := by
  obtain ⟨_, _, _, _, _, _, rfl⟩ := he
  exact h

theorem AdvanceKeeps.trans {s t u : State} (h : AdvanceKeeps s t) (k : AdvanceKeeps t u) : AdvanceKeeps s u := by
  unfold AdvanceKeeps at *
  obtain ⟨h1, h2, h3, h4, h5, h6, h7, h8, h9, h10, h11, h12, h13, h14, h15, h16, h17, h18, h19, h20, h21, h22, h23, hp⟩ := h
  obtain ⟨k1, k2, k3, k4, k5, k6, k7, k8, k9, k10, k11, k12, k13, k14, k15, k16, k17, k18, k19, k20, k21, k22, k23, kp⟩ := k
  refine ⟨k1.trans h1, k2.trans h2, k3.trans h3, k4.trans h4, k5.trans h5, k6.trans h6, k7.trans h7, k8.trans h8,
    k9.trans h9, k10.trans h10, k11.trans h11, k12.trans h12, k13.trans h13, k14.trans h14, k15.trans h15,
    k16.trans h16, k17.trans h17, k18.trans h18, k19.trans h19, k20.trans h20, k21.trans h21, k22.trans h22,
    k23.trans h23, fun p => ?_⟩
  obtain ⟨a1, a2, a3, a4, a5, a6, a7, a8, a9, a10⟩ := hp p
  obtain ⟨b1, b2, b3, b4, b5, b6, b7, b8, b9, b10⟩ := kp p
  exact ⟨b1.trans a1, b2.trans a2, b3.trans a3, b4.trans a4, b5.trans a5, b6.trans a6, b7.trans a7, b8.trans a8,
    b9.trans a9, b10.trans a10⟩

theorem advanceKeeps_advanceRows (s : State) : AdvanceKeeps s (advanceRows (countIndex s)) :=
  (worked_advanceRows (countIndex s)).advanceKeeps

theorem advanceKeeps_formRow (id : RecipeId) (s : State) : AdvanceKeeps s (formRow id s) :=
  (formRow_eq id s).1.advanceKeeps

/-! ### An advance that retires no row -/

/-- Rows none of which has reached E are put back on the map, and the ports alone change besides (R15, R16). -/
theorem foldl_takeRow_staying {rows : List Row} {s : State} (h : ∀ r ∈ rows, s.exitOffset ≠ some r.offset) :
    ∃ taken, SameButPorts { s with rows := taken } (rows.foldl takeRow s) := by
  induction rows generalizing s with
  | nil => exact ⟨s.rows, .refl s⟩
  | cons r rows ih =>
    obtain ⟨v, e, i, n, harrive⟩ := (rowWork_arriveRow (closeRow s r) s).2
    have htake : takeRow s r = { (s.withPorts v e i n) with rows := s.rows ++ [(arriveRow (closeRow s r) s).1] } := by
      unfold takeRow
      dsimp only
      rw [if_neg (h r List.mem_cons_self), harrive]
      rfl
    obtain ⟨taken, hrest⟩ := ih (s := takeRow s r) (by rw [htake]; exact fun x hx => h x (List.mem_cons_of_mem _ hx))
    rw [List.foldl_cons]
    refine ⟨taken, SameButPorts.trans ?_ hrest⟩
    rw [htake]
    exact ⟨v, e, i, n, rfl⟩

/-- The rows that stay and the index, counted: what an advance without a retirement changes besides the ports. -/
theorem advanceRows_staying {s : State} (h : ∀ row ∈ s.rows, s.exitOffset ≠ some (row.offset + 1)) :
    ∃ taken, SameButPorts { countIndex s with rows := taken } (advanceRows (countIndex s)) := by
  refine foldl_takeRow_staying (s := { countIndex s with rows := [] }) fun x hx => ?_
  obtain ⟨row, hrow, rfl⟩ := List.mem_map.mp hx
  exact h row hrow

theorem retirementIdle_advanceRows {s : State} (h : ∀ row ∈ s.rows, s.exitOffset ≠ some (row.offset + 1)) :
    RetirementIdle s (advanceRows (countIndex s)) ∧ (advanceRows (countIndex s)).useCounts = s.useCounts := by
  obtain ⟨taken, v, e, i, n, heq⟩ := advanceRows_staying h
  rw [heq]
  exact ⟨⟨rfl, rfl, rfl, rfl, rfl⟩, rfl⟩

/-- The keys of the rows after the row work (R15). -/
theorem rowKey_advanceRows (s : State) : (advanceRows (countIndex s)).rows.map rowKey
    = ((s.rows.filter fun r => s.exitOffset ≠ some (r.offset + 1)).map moved).map rowKey := by
  rw [rowKey_rowWork (advanceRows_rows (countIndex s)), staying, moveRows, List.filter_map]
  rfl

theorem mem_lanesOf (m : BitVec 4) (l : Fin 4) : l ∈ lanesOf m ↔ m.getLsbD l.val = true := by
  simp only [lanesOf, List.mem_filter, and_iff_right_iff_imp]
  exact fun _ => by fin_cases l <;> simp

theorem lanesOf_rising (m : BitVec 4) : (lanesOf m).Pairwise (· < ·) := by
  have : ([0, 1, 2, 3] : List (Fin 4)).Pairwise (· < ·) := by decide
  exact this.sublist List.filter_sublist

/-- Settles O16: the row work by the keys of its rows, formation by the row it places, and the rest by what both leave. -/
theorem advanceMovesRows : Obligations.AdvanceMovesRows := by
  refine ⟨fun m => ⟨mem_lanesOf m, lanesOf_rising m⟩, fun s hr hd => ⟨fun id formed hl hid hformed => ?_, fun hl => ?_⟩⟩
  · have hw := worked_advanceRows (countIndex s)
    have hobeys := obeys_advanceRows s
    have hkeeps := advanceKeeps_advanceRows s
    obtain ⟨v, e, i, n, hform⟩ := (formRow_eq id (advanceRows (countIndex s))).2
    have hlast : (advanceRows (countIndex s)).lastIndex = some formed := by
      obtain ⟨⟨w, heq⟩, -⟩ := hw
      rw [heq]; exact hformed
    have hplaced := placedRow_eq (id := id) hlast
    refine ⟨_, ⟨(advanceRows (countIndex s)).indexCount, 0, id, ((advanceRows (countIndex s)).recipe id).laneMask, formed,
        (lanesOf ((advanceRows (countIndex s)).recipe id).laneMask).map fun l =>
          Card.fresh l ((advanceRows (countIndex s)).recipe id).cavities.length⟩,
      execAdvance_run_selected hr hd hl hid, ⟨(advanceRows (countIndex s)).rows, ?_, rowKey_advanceRows s⟩, ?_, ?_,
      ?_, ?_, ?_, ?_, ?_, hkeeps.trans (advanceKeeps_formRow id _), fun hstay => ?_⟩
    · rw [hform, hplaced]; rfl
    · rw [rowKey, hw.indexCount_eq, hw.recipe_eq]; rfl
    · rw [hw.recipe_eq]; rfl
    · rw [hform, hplaced]
      change (advanceRows (countIndex s)).cardsFormed + _ = _
      rw [hw.counts_eq.1, hw.recipe_eq]
      rfl
    · rw [hform]; exact hw.line_eq.trans hl
    · rw [hform]; exact hw.indexCount_eq
    · rw [hform]
      obtain ⟨⟨w, heq⟩, -⟩ := hw
      exact congrArg State.advancesDue heq
    · rw [hform]; exact hobeys.trace rfl
    · obtain ⟨hidle, huses⟩ := retirementIdle_advanceRows hstay
      refine ⟨by rw [hform]; exact hidle, fun j => ?_⟩
      rw [hform]
      change (placedRow id (advanceRows (countIndex s))).useCount j = _
      rw [useCount_placedRow, useCount_congr huses]
  · have hw := worked_advanceRows (countIndex s)
    have hobeys := obeys_advanceRows s
    have hkeeps := advanceKeeps_advanceRows s
    have hdue : (advanceRows (countIndex s)).advancesDue = s.advancesDue - 1 := by
      obtain ⟨⟨w, heq⟩, -⟩ := hw
      rw [heq]; rfl
    refine ⟨_, execAdvance_drain hr hd hl, ?_⟩
    unfold drainEnd
    split
    · next hend =>
      obtain ⟨v, e, i, n, hraise⟩ := sameButPorts_raise everyPort .lineState { advanceRows (countIndex s) with line := .idle }
      refine ⟨?_, ?_, ?_, ?_, ?_, ?_, ?_, fun hstay => ?_⟩
      · rw [hraise]; exact rowKey_advanceRows s
      · rw [hraise]; exact (if_pos hend).symm
      · rw [hraise]; exact hw.counts_eq.1
      · rw [hraise]; exact hw.indexCount_eq
      · rw [hraise]; exact hdue
      · rw [hraise]; exact hobeys.trace rfl
      · exact (hkeeps.of_eq (u := { advanceRows (countIndex s) with line := .idle }) ⟨_, _, _, _, _, _, rfl⟩).trans
          (worked_raise _ _ _).advanceKeeps
      · rw [hraise]; exact retirementIdle_advanceRows hstay
    · next hend =>
      refine ⟨rowKey_advanceRows s, ?_, hw.counts_eq.1, hw.indexCount_eq, hdue, hobeys.trace rfl, hkeeps,
        fun hstay => retirementIdle_advanceRows hstay⟩
      rw [if_neg (show ¬ (s.rows ≠ [] ∧ _) from hend)]
      exact hw.line_eq.trans hl

end Sys2Proof.Machine

/-! ## The work on the cards of a row: closes, refill orders, the freeze -/

namespace Sys2Proof.Machine

/-! ### The close of a window on one card -/

/-- A card that a port's report no longer counts for (R39). -/
def Card.left (p : Port) (c : Card) : Card := { c with reported := c.reported.set p false }

theorem closeCard_of_not_required {s : State} {p : Port} (h : (s.station p).required = false) (r : Recipe) (o : Nat)
    (c : Card) : closeCard s p r o c = c.left p := by
  simp only [closeCard, h, Bool.false_eq_true, if_false, Card.left]

theorem closeCard_of_required {s : State} {p : Port} (h : (s.station p).required = true) (r : Recipe) (o : Nat)
    (c : Card) : closeCard s p r o c = (closeWork s p r o c).left p := by
  simp only [closeCard, h, if_true, Card.left]

/-- A condemnation does not look at the cavities. -/
theorem Card.condemn_with_cavities (c : Card) (l : List Cavity) (x : Reason) (p : Option Port) (o : Nat) :
    ({ c with cavities := l }).condemn x p o = { c.condemn x p o with cavities := l } := by
  unfold Card.condemn
  split <;> rfl

theorem owesEntry_iff (p : Port) (spec : CavitySpec) (cav : Cavity) :
    owesEntry p spec cav = true ↔ spec.feeder = some p ∧ ∀ e ∈ cav.placements, e.station ≠ p := by
  simp [owesEntry]

theorem closeFeed_cavities (stations : PerPort Station) (p : Port) (r : Recipe) (o : Nat) (c : Card) :
    (closeFeed stations p r o c).cavities = mapSpec (fun spec cav =>
      if owesEntry p spec cav then Cavity.recount stations { cav with placements := cav.placements ++ [⟨p, 0⟩] } else cav)
      r.cavities c.cavities := by
  unfold closeFeed
  simp only
  split <;> simp

/-- But for the cavities, the close of a FEED station condemns the card or leaves it (R41). -/
theorem closeFeed_card (stations : PerPort Station) (p : Port) (r : Recipe) (o : Nat) (c : Card) :
    { closeFeed stations p r o c with cavities := c.cavities }
      = if anySpec (fun spec cav => owesEntry p spec cav && !spec.verify) r.cavities c.cavities then
          c.condemn .noReport (some p) o
        else c := by
  unfold closeFeed
  simp only
  split
  · rw [Card.condemn_with_cavities, ← Card.condemn_cavities c .noReport (some p) o]
  · rfl

theorem owesUnverified_iff (p : Port) (r : Recipe) (c : Card) :
    anySpec (fun spec cav => owesEntry p spec cav && !spec.verify) r.cavities c.cavities = true ↔
      ∃ i spec cav, CavityAt r c i spec cav ∧ spec.feeder = some p ∧ spec.verify = false ∧
        ∀ e ∈ cav.placements, e.station ≠ p := by
  simp only [anySpec_iff, Bool.and_eq_true, owesEntry_iff, Bool.not_eq_true', CavityAt]
  constructor
  · rintro ⟨i, spec, cav, h1, h2, ⟨h3, h4⟩, h5⟩
    exact ⟨i, spec, cav, ⟨h1, h2⟩, h3, h5, h4⟩
  · rintro ⟨i, spec, cav, ⟨h1, h2⟩, h3, h5, h4⟩
    exact ⟨i, spec, cav, h1, h2, ⟨h3, h4⟩, h5⟩

theorem highestInspect_iff (s : State) (p : Port) : highestInspect s p = true ↔
    ∀ q, (s.station q).role = .inspect → (s.station q).offset ≤ (s.station p).offset := by
  simp [highestInspect, mem_portsWith]

theorem anyUnverified_iff (r : Recipe) (c : Card) : anySpec unverifiedFails r.cavities c.cavities = true ↔
    ∃ i spec cav, CavityAt r c i spec cav ∧ spec.verify = true ∧ cav.inspection = none := by
  simp [anySpec_iff, unverifiedFails, CavityAt, and_assoc]

theorem closeCard_form {s : State} {p : Port} (hq : (s.station p).required = true) (h : (s.station p).role = .form)
    (r : Recipe) (o : Nat) (c : Card) : closeCard s p r o c =
      if c.reported.get p = true then c.left p else (c.condemn .noReport (some p) o).left p := by
  rw [closeCard_of_required hq]
  simp only [closeWork, h]
  split <;> rfl

theorem closeCard_feed {s : State} {p : Port} (hq : (s.station p).required = true) (h : (s.station p).role = .feed)
    (r : Recipe) (o : Nat) (c : Card) : closeCard s p r o c = (closeFeed s.stations p r o c).left p := by
  rw [closeCard_of_required hq]
  simp only [closeWork, h]

theorem closeCard_inspect {s : State} {p : Port} (hq : (s.station p).required = true)
    (h : (s.station p).role = .inspect) (r : Recipe) (o : Nat) (c : Card) : closeCard s p r o c =
      if highestInspect s p && anySpec unverifiedFails r.cavities c.cavities then
        (c.condemn .noReport (some p) o).left p else c.left p := by
  rw [closeCard_of_required hq]
  simp only [closeWork, h]
  split <;> rfl

theorem closeCard_topup {s : State} {p : Port} (hq : (s.station p).required = true) (h : (s.station p).role = .topup)
    (r : Recipe) (o : Nat) (c : Card) :
    closeCard s p r o c = ({ c with cavities := c.cavities.map (closeOrder p) }).left p := by
  rw [closeCard_of_required hq]
  simp only [closeWork, h]

theorem closeCard_seal {s : State} {p : Port} (hq : (s.station p).required = true) (h : (s.station p).role = .seal)
    (r : Recipe) (o : Nat) (c : Card) : closeCard s p r o c =
      if c.reported.get p || c.summary.inhibited then c.left p else (c.condemn .noReport (some p) o).left p := by
  rw [closeCard_of_required hq]
  simp only [closeWork, h]
  split <;> rfl

theorem closeCard_punch {s : State} {p : Port} (hq : (s.station p).required = true) (h : (s.station p).role = .punch)
    (r : Recipe) (o : Nat) (c : Card) : closeCard s p r o c =
      if c.discharge = none then ({ c with discharge := some .unknown }).left p else c.left p := by
  rw [closeCard_of_required hq]
  simp only [closeWork, h]
  split <;> rfl

theorem closeCard_feed_cavity {s : State} {p : Port} (hq : (s.station p).required = true)
    (h : (s.station p).role = .feed) {r : Recipe} {c : Card} {i : Nat} {spec : CavitySpec} {cav : Cavity}
    (hc : CavityAt r c i spec cav) (o : Nat) : (closeCard s p r o c).cavities[i]? = some
      (if spec.feeder = some p ∧ (∀ e ∈ cav.placements, e.station ≠ p) then
        { cav with
          placements := cav.placements ++ [⟨p, 0⟩]
          count := effectiveCount s.stations cav.inspection (cav.placements ++ [⟨p, 0⟩]) }
       else cav) := by
  obtain ⟨hspec, hcav⟩ := hc
  rw [closeCard_feed hq h]
  simp only [Card.left, closeFeed_cavities, getElem?_mapSpec, hspec, hcav, owesEntry_iff]
  rfl

theorem closeCard_feed_card {s : State} {p : Port} (hq : (s.station p).required = true)
    (h : (s.station p).role = .feed) (r : Recipe) (o : Nat) (c : Card) :
    { closeCard s p r o c with cavities := c.cavities }
      = if anySpec (fun spec cav => owesEntry p spec cav && !spec.verify) r.cavities c.cavities then
          (c.condemn .noReport (some p) o).left p
        else c.left p := by
  rw [closeCard_feed hq h]
  change Card.left p { closeFeed s.stations p r o c with cavities := c.cavities } = _
  rw [closeFeed_card]
  split <;> rfl

/-- Settles O17: each role's close is its branch of the work, read with the tests spelled out. -/
theorem windowCloseByRole : Obligations.WindowCloseByRole := by
  unfold Obligations.WindowCloseByRole
  intro s p r o c leave condemned
  refine ⟨fun h => closeCard_of_not_required h r o c, fun hq => ⟨fun h hr => ?_, fun h hr => ?_, fun h => ⟨?_, ?_, ?_⟩,
    fun h => ⟨?_, ?_, ?_⟩, fun h => ?_, fun h hr hi => ?_, fun h hr => ?_, fun h hd => ?_, fun h hd => ?_⟩⟩
  · rw [closeCard_form hq h, if_neg (by simp [hr])]; rfl
  · rw [closeCard_form hq h, if_pos hr]; rfl
  · exact fun i spec cav hc => closeCard_feed_cavity hq h hc o
  · intro owing
    rw [closeCard_feed_card hq h, if_pos ((owesUnverified_iff p r c).2 owing)]; rfl
  · intro entered
    rw [closeCard_feed_card hq h, if_neg]
    · rfl
    · rw [owesUnverified_iff]
      rintro ⟨i, spec, cav, hc, hf, hv, none⟩
      obtain ⟨e, he, hep⟩ := entered i spec cav hc hf hv
      exact none e he hep
  · rintro ⟨top, missing⟩
    rw [closeCard_inspect hq h, if_pos]
    · rfl
    · rw [Bool.and_eq_true]
      exact ⟨(highestInspect_iff s p).2 top, (anyUnverified_iff r c).2 missing⟩
  · rintro ⟨q, hrole, above⟩
    rw [closeCard_inspect hq h, if_neg]
    · rfl
    · rw [Bool.and_eq_true, highestInspect_iff]
      exact fun top => absurd (top.1 q hrole) (by omega)
  · intro seen
    rw [closeCard_inspect hq h, if_neg]
    · rfl
    · rw [Bool.and_eq_true, anyUnverified_iff]
      rintro ⟨-, i, spec, cav, hc, hv, hnone⟩
      exact seen i spec cav hc hv hnone
  · rw [closeCard_topup hq h]; rfl
  · rw [closeCard_seal hq h, if_neg (by simp [hr, hi])]; rfl
  · rw [closeCard_seal hq h, if_pos (by simpa using hr)]; rfl
  · rw [closeCard_punch hq h, if_pos hd]; rfl
  · rw [closeCard_punch hq h, if_neg hd]; rfl

/-! ### Refill orders -/

theorem wantsRefill_iff (stations : PerPort Station) (p : Port) (r : Recipe) (spec : CavitySpec) (cav : Cavity) :
    wantsRefill stations p r spec cav = true ↔ WantsRefill stations p r spec cav := by
  unfold wantsRefill WantsRefill
  cases cav.inspection <;> simp [and_assoc]

/-- A card's order lines are those of its cavities that want a refill, each with its cavity's number (R89). -/
theorem mem_orderLines (stations : PerPort Station) (p : Port) (r : Recipe) (lane : Fin 4) (k : Nat)
    (specs : List CavitySpec) (cavs : List Cavity) (line : OrderLine) :
    line ∈ orderLines stations p r lane k specs cavs ↔ ∃ (i : Nat) (spec : CavitySpec) (cav : Cavity),
      specs[i]? = some spec ∧ cavs[i]? = some cav ∧
      WantsRefill stations p r spec cav ∧ line = ⟨lane, k + i, spec.required - cav.count, spec.cls⟩ := by
  induction specs generalizing k cavs with
  | nil => simp [orderLines]
  | cons spec specs ih =>
    cases cavs with
    | nil => simp [orderLines]
    | cons cav cavs =>
      have later : line ∈ orderLines stations p r lane (k + 1) specs cavs ↔ ∃ (i : Nat) (x : CavitySpec) (y : Cavity),
          (spec :: specs)[i + 1]? = some x ∧ (cav :: cavs)[i + 1]? = some y ∧
          WantsRefill stations p r x y ∧ line = ⟨lane, k + (i + 1), x.required - y.count, x.cls⟩ := by
        rw [ih]
        simp only [List.getElem?_cons_succ, Nat.add_assoc, Nat.add_comm 1]
      have here : line ∈ orderLines stations p r lane k (spec :: specs) (cav :: cavs) ↔
          (WantsRefill stations p r spec cav ∧ line = ⟨lane, k, spec.required - cav.count, spec.cls⟩) ∨
            line ∈ orderLines stations p r lane (k + 1) specs cavs := by
        simp only [orderLines, ← wantsRefill_iff]
        split
        · next w => simp [w]
        · next w => simp [w]
      rw [here, later]
      constructor
      · rintro (⟨w, rfl⟩ | ⟨i, x, y, hx, hy, w, rfl⟩)
        · exact ⟨0, spec, cav, rfl, rfl, w, rfl⟩
        · exact ⟨i + 1, x, y, hx, hy, w, rfl⟩
      · rintro ⟨i, x, y, hx, hy, w, rfl⟩
        cases i with
        | zero =>
          simp only [List.getElem?_cons_zero, Option.some.injEq] at hx hy
          subst hx hy
          exact .inl ⟨w, rfl⟩
        | succ i => exact .inr ⟨i, x, y, hx, hy, w, rfl⟩

theorem le_cavity_of_mem_orderLines {stations : PerPort Station} {p : Port} {r : Recipe} {lane : Fin 4} {k : Nat}
    {specs : List CavitySpec} {cavs : List Cavity} {line : OrderLine}
    (h : line ∈ orderLines stations p r lane k specs cavs) : k ≤ line.cavity := by
  obtain ⟨i, -, -, -, -, -, rfl⟩ := (mem_orderLines ..).1 h
  exact Nat.le_add_right k i

theorem orderLines_rising (stations : PerPort Station) (p : Port) (r : Recipe) (lane : Fin 4) (k : Nat)
    (specs : List CavitySpec) (cavs : List Cavity) :
    (orderLines stations p r lane k specs cavs).Pairwise (fun a b => a.cavity < b.cavity) := by
  induction specs generalizing k cavs with
  | nil => simp [orderLines]
  | cons spec specs ih =>
    cases cavs with
    | nil => simp [orderLines]
    | cons cav cavs =>
      simp only [orderLines]
      split
      · exact List.pairwise_cons.2 ⟨fun line h => le_cavity_of_mem_orderLines h, ih ..⟩
      · exact ih ..

theorem orderCard_of_uncondemned {c : Card} (h : c.reason = none) (stations : PerPort Station) (p : Port) (r : Recipe)
    (outcome : RefillOutcome) : orderCard stations p r outcome c = { c with
      cavities := mapSpec (fun spec cav => if wantsRefill stations p r spec cav then orderCavity p outcome cav else cav)
        r.cavities c.cavities } := if_pos h

theorem cardLines_of_uncondemned {c : Card} (h : c.reason = none) (stations : PerPort Station) (p : Port) (r : Recipe) :
    cardLines stations p r c = orderLines stations p r c.lane 0 r.cavities c.cavities := if_pos h

/-- Settles O19: the orders are read by index, the lines by induction on the cavities. -/
theorem refillOrders : Obligations.RefillOrders := by
  unfold Obligations.RefillOrders
  intro stations p r outcome c
  refine ⟨fun h => ⟨if_neg h, if_neg h⟩, fun h => ?_⟩
  rw [orderCard_of_uncondemned h, cardLines_of_uncondemned h]
  refine ⟨?_, rfl, orderLines_rising .., fun line => ?_⟩
  · rintro i spec cav ⟨hspec, hcav⟩
    simp only [getElem?_mapSpec, hspec, hcav, ← wantsRefill_iff]
    exact ⟨fun w => by rw [if_pos w, orderCavity], fun w => by rw [if_neg w]⟩
  · simp only [mem_orderLines, CavityAt, Nat.zero_add, and_assoc]

/-! ### The freeze -/

theorem arriveAt_punch {s : State} {p : Port} (h : (s.station p).role = .punch) (row : Row) :
    arriveAt p row s = ({ row with cards := row.cards.map (freezeCard (s.recipe row.recipe) row.offset) },
      (offerBrief p (punchBrief
        { row with cards := row.cards.map (freezeCard (s.recipe row.recipe) row.offset) }) s).2) := by
  simp only [arriveAt, h]

theorem freezeCard_of_condemned {c : Card} (h : c.reason ≠ none) (r : Recipe) (o : Nat) :
    freezeCard r o c = { c with state := .frozen, verdict := some .reject } := by
  have kept (x : Reason) : c.condemn x none o = c := Card.condemn_of_condemned h x none o
  unfold freezeCard
  split <;> simp [kept, h]

theorem freezeCard_of_doseReason {c : Card} {r : Recipe} {x : Reason} (h : c.reason = none) (hs : c.state ≠ .frozen)
    (hd : doseReason r c.summary = some x) (o : Nat) : freezeCard r o c = { c with
      state := .frozen, reason := some x, station := none, condemnOffset := some o, verdict := some .reject } := by
  simp [freezeCard, hd, Card.condemn_of_uncondemned h hs]

theorem freezeCard_of_dose_good {c : Card} {r : Recipe} (h : c.reason = none)
    (hd : doseReason r c.summary = none) (o : Nat) :
    freezeCard r o c = { c with state := .frozen, verdict := some .pass } := by
  simp [freezeCard, hd, h]

theorem doseReason_high {r : Recipe} {m : Seal} (h : m.saturated = true ∨ r.dMax < m.dose) :
    doseReason r m = some .sealHigh := if_pos h

theorem doseReason_low {r : Recipe} {m : Seal} (h : m.saturated = false) (hhigh : m.dose ≤ r.dMax)
    (hlow : m.dose < r.dMin) : doseReason r m = some .sealLow := by
  rw [doseReason, if_neg (by simp [h, hhigh]), if_pos hlow]

theorem doseReason_good {r : Recipe} {m : Seal} (h : m.saturated = false) (hhigh : m.dose ≤ r.dMax)
    (hlow : r.dMin ≤ m.dose) : doseReason r m = none := by
  rw [doseReason, if_neg (by simp [h, hhigh]), if_neg (by omega)]

/-- Settles O21: by the card's reason, and without one by the outcome of the dose test. -/
theorem freezeVerdicts : Obligations.FreezeVerdicts := by
  unfold Obligations.FreezeVerdicts
  intro s p row hp r i c hi hs fixed
  have arrived : (arriveAt p row s).1.cards[i]? = some (freezeCard r row.offset c) := by
    rw [arriveAt_punch hp]
    simp only [List.getElem?_map, hi, Option.map_some]
    rfl
  rw [arrived]
  refine ⟨fun h => ?_, fun h hd => ?_, fun h hd hmax hmin => ?_, fun h hst hd hmax hmin => ?_⟩
  · rw [freezeCard_of_condemned h]
    simp [fixed, h]
  · rw [freezeCard_of_doseReason h hs (doseReason_high hd)]
    simp [fixed, h]
  · rw [freezeCard_of_doseReason h hs (doseReason_low hd hmax hmin)]
    simp [fixed, h]
  · rw [freezeCard_of_dose_good h (doseReason_good hd hmax hmin)]
    simp [fixed, h, hst]

end Sys2Proof.Machine

/-! ## Arrivals by role, reconciliation and retirement -/

namespace Sys2Proof.Machine

/-! ### Arrivals -/

/-- A list numbered from 0, in either order of number and member. -/
theorem range_zip_eq_zipIdx {α : Type} (l : List α) : (List.range l.length).zip l = l.zipIdx.map Prod.swap := by
  rw [List.zipIdx_eq_zip_range', List.range_eq_range', List.zip_swap]

theorem arriveAt_feed {s : State} {p : Port} (h : (s.station p).role = .feed) (row : Row) :
    arriveAt p row s = (row, (offerBrief p (feedBrief p (s.recipe row.recipe) row) s).2) := by
  simp only [arriveAt, h]

theorem arriveAt_inspect {s : State} {p : Port} (h : (s.station p).role = .inspect) (row : Row) :
    arriveAt p row s = (row, (offerBrief p (inspectBrief (s.recipe row.recipe) row) s).2) := by
  simp only [arriveAt, h]

theorem arriveAt_topup {s : State} {p : Port} (h : (s.station p).role = .topup) {row : Row} {delivered : Bool}
    {outcome : RefillOutcome} (ho : (if delivered then RefillOutcome.ordered else .notDelivered) = outcome)
    (hd : (offerBrief p (topupBrief s.stations p (s.recipe row.recipe) row) s).1 = delivered) :
    arriveAt p row s = ({ row with cards := row.cards.map (orderCard s.stations p (s.recipe row.recipe) outcome) },
      (offerBrief p (topupBrief s.stations p (s.recipe row.recipe) row) s).2) := by
  simp only [arriveAt, h, hd, ho]

/-- The cards of a row that arrives at a SEAL station, before its brief is built (R16, R95). -/
def sealedCards (s : State) (row : Row) : List Card :=
  if s.sealOffset = some row.offset then row.cards.map (judgeCard (s.recipe row.recipe) row.offset) else row.cards

theorem arriveAt_seal {s : State} {p : Port} (h : (s.station p).role = .seal) (row : Row) :
    arriveAt p row s =
      let judged := { row with cards := sealedCards s row }
      let offer := offerBrief p (sealBrief (s.recipe row.recipe) judged) s
      (if offer.1 then { judged with cards := judged.cards.map (inhibitCard (s.recipe row.recipe)) } else judged,
        offer.2) := by
  simp only [arriveAt, h, sealedCards]
  split <;> rfl

theorem arriveAt_off_line {s : State} {p : Port}
    (h : (s.station p).role = .form ∨ (s.station p).role = .supervisor ∨ (s.station p).role = .unassigned)
    (row : Row) : arriveAt p row s = (row, s) := by
  rcases h with h | h | h <;> simp only [arriveAt, h]

theorem feedBrief_eq (p : Port) (r : Recipe) (row : Row) : feedBrief p r row =
    .feed row.number row.recipe row.laneMask (row.cards.map fun c => ⟨c.lane, c.reason.isSome,
      (r.cavities.zipIdx.filter fun x => x.1.feeder = some p).map fun x => (x.2, x.1.required, x.1.cls)⟩) := by
  simp only [feedBrief, range_zip_eq_zipIdx, List.filter_map, List.map_map]
  rfl

theorem inhibits_iff (r : Recipe) (c : Card) : inhibits r c = true ↔ r.recover = true ∧ c.reason ≠ none := by
  simp [inhibits, Option.isSome_iff_ne_none]

theorem inhibitCard_if (r : Recipe) : inhibitCard r = fun c =>
    if r.recover = true ∧ c.reason ≠ none then { c with summary := { c.summary with inhibited := true } } else c := by
  funext c
  exact if_congr (inhibits_iff r c) rfl rfl

/-- The PUNCH brief of frozen cards has the verdict that the freeze sets (R119). -/
theorem punchBrief_frozen (r : Recipe) (row : Row) (o : Nat) :
    punchBrief { row with cards := row.cards.map (freezeCard r o) } = .punch row.number row.recipe
      ((row.cards.map (freezeCard r o)).map fun c =>
        ⟨c.lane, if c.reason = none then .pass else .reject, c.reason, c.summary.inhibited⟩) := by
  have verdict (c : Card) : (freezeCard r o c).finalVerdict
      = if (freezeCard r o c).reason = none then .pass else .reject := rfl
  simp only [punchBrief, List.map_map]
  exact congrArg _ (List.map_congr_left fun c _ => by simp only [Function.comp, verdict])

/-- Settles O18: each role's arrival is its branch of `arriveAt`, with the brief written out. -/
theorem arrivalByRole : Obligations.ArrivalByRole := by
  unfold Obligations.ArrivalByRole
  intro s p row r
  refine ⟨fun h => ?_, fun h => ?_, fun h => ?_, fun h => ?_, fun h => ?_, fun h => arriveAt_off_line h row⟩
  · rw [arriveAt_feed h, feedBrief_eq]
  · rw [arriveAt_inspect h]; rfl
  · exact ⟨fun placed => arriveAt_topup h rfl placed, fun dropped => arriveAt_topup h rfl dropped⟩
  · intro cards offer
    have arrived : arriveAt p row s = (if offer.1 then { row with cards := cards.map (inhibitCard r) }
      else { row with cards := cards }, offer.2) := arriveAt_seal h row
    rw [arrived, inhibitCard_if]
    exact ⟨fun placed => by rw [if_pos placed], fun dropped => by rw [dropped]; rfl⟩
  · rw [arriveAt_punch h, punchBrief_frozen]

/-! ### Reconciliation -/

/-- No ATTENTION is offered where nothing changed. -/
theorem announce_self (s : State) : announce s s = s := by
  have kept (p : Port) (b : PortBlock) :
      (if s.masked p = 0 ∧ s.masked p ≠ 0 then b.offerAttention else b) = b := if_neg fun h => h.2 h.1
  simp only [announce, kept]
  exact congrArg (fun ports => { s with ports := ports }) (PerPort.ofFn_get s.ports)

theorem raise_latched (choose : Port → Bool) (e : Event) (s : State) (q : Port) :
    ((raise choose e s).port q).latched = if choose q then (s.port q).latched ||| eventBit e else (s.port q).latched := by
  rw [raise, announce_latched, latchOn_latched]

theorem Card.finalVerdict_of {c : Card} {v : Verdict} (h : c.verdict = some v) : c.finalVerdict = v := by
  simp [Card.finalVerdict, h]

/-- The reconciliation of a rejected card that is not in the reject chute (R122, R124). -/
theorem reconcile_fault {row : Row} {c : Card} {s : State} (hv : c.finalVerdict = .reject)
    (hd : c.discharge = none ∨ c.discharge = some .unknown ∨ c.discharge = some .goodChute) :
    reconcile row c s = announce s (latchFault row c s) := by
  rcases hd with hd | hd | hd <;> simp only [reconcile, hv, hd, Option.getD_none, Option.getD_some]

/-- Settles O22: the rows of the table, one by one. -/
theorem reconciliationTable : Obligations.ReconciliationTable := by
  unfold Obligations.ReconciliationTable
  intro row c s v hv
  have hfinal := Card.finalVerdict_of hv
  refine ⟨fun h hd => ?_, fun h hd => ?_, fun h hd => ?_, fun h hd => ?_, fun h hd => ⟨fun hf => ?_, fun hf => ?_⟩,
    fun hd => ?_⟩
  · simp only [reconcile, hfinal, h, hd, Option.getD_some]
  · simp only [reconcile, hfinal, h, hd, Option.getD_some]
  · simp only [reconcile, hfinal, h, hd, Option.getD_some]
  · rcases hd with hd | hd <;> simp only [reconcile, hfinal, h, hd, Option.getD_none, Option.getD_some]
  · rw [reconcile_fault (hfinal.trans h) hd, latchFault, if_neg (by simp [hf])]
  · rw [reconcile_fault (hfinal.trans h) hd, latchFault, if_pos (Option.isSome_iff_ne_none.2 hf), announce_self]
  · have jammed : reconcile row c s = raise everyPort .jam s := by simp only [reconcile, hd, Option.getD_some]
    rw [jammed]
    exact ⟨rfl, fun q => raise_latched everyPort .jam s q, rfl⟩

/-! ### Retirement -/

/-- Settles O23: the fold is `retireCard` with its record written out; the offers are the branches of `offerRecord`. -/
theorem retirementOffersRecords : Obligations.RetirementOffersRecords := by
  unfold Obligations.RetirementOffersRecords
  refine ⟨fun s id n => ⟨rfl, fun j => State.useCount_setUseCount s id j n⟩, fun row s => ⟨_, rfl, rfl⟩,
    fun rec s => ⟨fun h => if_pos h, fun h => ?_⟩⟩
  · have full : offerRecord rec s = raise (fun p => (s.station p).perms.trace) .traceOverrun
        { s with cardsDropped := s.cardsDropped + 1 } := if_neg (by simp only [Config.traceSize]; omega)
    rw [full]
    exact ⟨rfl, fun q => raise_latched _ _ _ q⟩

end Sys2Proof.Machine

/-! ## Reports: admission, validation and application -/

namespace Sys2Proof.Machine

/-! ### The rows and cards that a report names -/

theorem State.findRow_eq_none (s : State) (number : Word) :
    s.findRow number = none ↔ ∀ row ∈ s.rows, row.number ≠ number := by
  simp [State.findRow]

theorem State.findRow_eq_some {s : State} {number : Word} {row : Row} (h : s.findRow number = some row) :
    row ∈ s.rows ∧ row.number = number :=
  ⟨List.mem_of_find?_eq_some h, by simpa using List.find?_some h⟩

theorem Row.card_eq_none (row : Row) (l : Fin 4) : row.card l = none ↔ ∀ c ∈ row.cards, c.lane ≠ l := by
  simp [Row.card]

theorem Row.card_eq_some {row : Row} {l : Fin 4} {c : Card} (h : row.card l = some c) : c ∈ row.cards ∧ c.lane = l :=
  ⟨List.mem_of_find?_eq_some h, by simpa using List.find?_some h⟩

theorem laneIn_of_lane {row : Row} {l : Fin 4} (h : row.laneMask.getLsbD l.val = true) :
    laneIn row (BitVec.ofNat 8 l.val) = some l := by
  have hl : (BitVec.ofNat 8 l.val).toNat = l.val := by
    rw [BitVec.toNat_ofNat, Nat.mod_eq_of_lt (by have := l.isLt; omega)]
  simp [laneIn, hl, h]

theorem laneIn_eq_none {row : Row} {lane : Octet} (h : 3 < lane.toNat ∨ row.laneMask.getLsbD lane.toNat = false) :
    laneIn row lane = none := by
  unfold laneIn
  split
  · next hlt =>
    obtain h | h := h
    · omega
    · simp [h]
  · rfl

/-! ### The five commands -/

theorem mayReport_formResult (row : Word) (lane splice : Octet) (outcomes : List Octet) :
    (mayReport · (.formResult row lane splice outcomes)) = (· == .form) := by
  funext role
  cases role <;> rfl

theorem mayReport_placement (row : Word) (lane : Octet) (pairs : List PlacePair) :
    (mayReport · (.placement row lane pairs)) = fun role => role == .feed || role == .topup := by
  funext role
  cases role <;> rfl

theorem mayReport_inspection (row : Word) (lane : Octet) (entries : List InspectEntry) :
    (mayReport · (.inspection row lane entries)) = (· == .inspect) := by
  funext role
  cases role <;> rfl

theorem mayReport_sealHit (row : Word) (lane sealed : Octet) (t w q : Half) :
    (mayReport · (.sealHit row lane sealed t w q)) = (· == .seal) := by
  funext role
  cases role <;> rfl

theorem mayReport_discharge (row : Word) (lane outcome : Octet) :
    (mayReport · (.discharge row lane outcome)) = (· == .punch) := by
  funext role
  cases role <;> rfl

/-- A report as every one of the five commands takes it: permitted by the table of R33, and then its own check and
application. -/
def reported (r : Request) (number : Word) (lane : Octet) (check : Row → Recipe → Card → Option Code)
    (app : State → Row → Recipe → Card → Card) : State → Host.Outcome State Fault Refusal :=
  serve r (takeReport (mayReport · r.body) r.port number lane check app)

theorem exec_formResult (p : Port) (tag : Octet) (row : Word) (lane splice : Octet) (outcomes : List Octet) :
    exec (.formResult p tag row lane splice outcomes)
      = reported ⟨p, tag, .formResult row lane splice outcomes⟩ row lane (fun _ r _ => checkForm splice outcomes r)
        (fun _ row _ => applyForm p row.offset (splice == 1) (outcomes.filterMap formOutcomeOf)) := by
  rw [reported, mayReport_formResult]
  rfl

theorem exec_placement (p : Port) (tag : Octet) (row : Word) (lane : Octet) (pairs : List PlacePair) :
    exec (.placement p tag row lane pairs)
      = reported ⟨p, tag, .placement row lane pairs⟩ row lane
        (fun _ r _ => checkCavities (pairs.map fun e => e.cavity.toNat) r)
        (fun s _ _ => applyPlacement s.stations p pairs) := by
  rw [reported, mayReport_placement]
  rfl

theorem exec_inspection (p : Port) (tag : Octet) (row : Word) (lane : Octet) (entries : List InspectEntry) :
    exec (.inspection p tag row lane entries)
      = reported ⟨p, tag, .inspection row lane entries⟩ row lane (fun _ r _ => checkInspection entries r)
        (fun s row r => applyInspection s.stations p row.offset r entries) := by
  rw [reported, mayReport_inspection]
  rfl

theorem exec_sealHit (p : Port) (tag : Octet) (row : Word) (lane sealed : Octet) (t w q : Half) :
    exec (.sealHit p tag row lane sealed t w q)
      = reported ⟨p, tag, .sealHit row lane sealed t w q⟩ row lane (fun _ _ c => checkSealHit p sealed c)
        (fun _ row r => applySealHit p row.offset r (sealed == 1) t.toNat w.toNat q.toNat) := by
  rw [reported, mayReport_sealHit]
  rfl

theorem exec_discharge (p : Port) (tag : Octet) (row : Word) (lane outcome : Octet) :
    exec (.discharge p tag row lane outcome)
      = reported ⟨p, tag, .discharge row lane outcome⟩ row lane (fun _ _ _ => checkDischarge outcome)
        (fun _ _ _ c => { c with discharge := dischargeOf outcome }) := by
  rw [reported, mayReport_discharge]
  rfl

/-- Whatever command has a report as its request takes it so. -/
theorem exec_reported {c : Instr} {r : Request} {number : Word} {lane : Octet} (hc : requestOf c = some r)
    (ht : reportTarget r.body = some (number, lane)) : ∃ check app, exec c = reported r number lane check app := by
  cases c
  case formResult =>
    cases hc
    cases ht
    exact ⟨_, _, exec_formResult ..⟩
  case placement =>
    cases hc
    cases ht
    exact ⟨_, _, exec_placement ..⟩
  case inspection =>
    cases hc
    cases ht
    exact ⟨_, _, exec_inspection ..⟩
  case sealHit =>
    cases hc
    cases ht
    exact ⟨_, _, exec_sealHit ..⟩
  case discharge =>
    cases hc
    cases ht
    exact ⟨_, _, exec_discharge ..⟩
  all_goals
    cases hc
    try cases ht

/-! ### Admission -/

section
variable {r : Request} {s : State} {number : Word} {lane : Octet} {check : Row → Recipe → Card → Option Code}
  {app : State → Row → Recipe → Card → Card}

theorem reported_of_screen_error (hs : InService r s) {code : Code} {detail : Nat}
    (h : screenReport (mayReport · r.body) r.port number s = .error (code, detail)) :
    reported r number lane check app s = .next (refused r code detail s) := by
  rw [reported, serve_inService hs, takeReport, h]
  rfl

theorem reported_forbidden (hs : InService r s) (h : mayReport (s.station r.port).role r.body = false) :
    reported r number lane check app s = .next (refused r .forbidden 0 s) :=
  reported_of_screen_error hs (if_pos h)

section
variable (hs : InService r s) (hrole : mayReport (s.station r.port).role r.body = true)
include hs hrole

theorem reported_offline (h : (s.station r.port).mode = .offline) :
    reported r number lane check app s = .next (refused r .offline 0 s) := by
  refine reported_of_screen_error hs ?_
  simp [screenReport, hrole, h]

theorem reported_unknownRow (hm : (s.station r.port).mode = .active) (h : s.findRow number = none) :
    reported r number lane check app s = .next (refused r .unknownRow 0 s) := by
  refine reported_of_screen_error hs ?_
  simp [screenReport, hrole, hm, h]

variable {row : Row} (hm : (s.station r.port).mode = .active) (hrow : s.findRow number = some row)
include hm hrow

theorem reported_early (h : row.offset < (s.station r.port).offset) :
    reported r number lane check app s = .next (refused r .early row.offset s) := by
  refine reported_of_screen_error hs ?_
  simp [screenReport, hrole, hm, hrow, h]

theorem reported_late (h : (s.station r.port).offset ≤ row.offset)
    (hw : (s.station r.port).offset + (s.station r.port).window ≤ row.offset) :
    reported r number lane check app s = .next (refused r .late row.offset s) := by
  refine reported_of_screen_error hs ?_
  simp [screenReport, hrole, hm, hrow, h, hw]

variable (h : (s.station r.port).offset ≤ row.offset)
  (hw : row.offset < (s.station r.port).offset + (s.station r.port).window)
include h hw

omit hs in
theorem screenReport_open : screenReport (mayReport · r.body) r.port number s = .ok row := by
  simp [screenReport, hrole, hm, hrow, not_lt.2 h, not_le.2 hw]

theorem reported_malformed_lane (hl : laneIn row lane = none) :
    reported r number lane check app s = .next (refused r .malformed 0 s) := by
  rw [reported, serve_inService hs, takeReport, screenReport_open hrole hm hrow h hw]
  simp only [hl]
  rfl

end

/-! ### What the kind's own check decides on an admitted report -/

variable {row : Row} {l : Fin 4} {card : Card} (hs : InService r s) (ha : Admits r s row l card)
  (ht : reportTarget r.body = some (number, lane))
include hs ha ht

theorem reported_check_refuses {code : Code} (h : check row (s.recipe row.recipe) card = some code) :
    reported r number lane check app s = .next (refused r code 0 s) := by
  obtain ⟨hname, hrole, hm, hrow, hopen, hwindow, hlane, hcard⟩ := ha
  obtain ⟨rfl, rfl⟩ := Prod.mk.inj (Option.some.inj (ht.symm.trans hname))
  rw [reported, serve_inService hs, takeReport, screenReport_open hrole hm hrow hopen hwindow]
  simp only [laneIn_of_lane hlane, hcard, h]
  rfl

theorem reported_applies (h : check row (s.recipe row.recipe) card = none) :
    reported r number lane check app s = .next (finished r .nothing s { s with
      rows := updateCard row.number l (fun c => app s row (s.recipe row.recipe) (joinReported r.port c)) s.rows }) := by
  obtain ⟨hname, hrole, hm, hrow, hopen, hwindow, hlane, hcard⟩ := ha
  obtain ⟨rfl, rfl⟩ := Prod.mk.inj (Option.some.inj (ht.symm.trans hname))
  rw [reported, serve_inService hs, takeReport, screenReport_open hrole hm hrow hopen hwindow]
  simp only [laneIn_of_lane hlane, hcard, h]

end

/-- Settles O26: the checks of `screenReport`, which all five commands pass first. -/
theorem reportAdmissionChecks : Obligations.ReportAdmissionChecks := by
  unfold Obligations.ReportAdmissionChecks
  refine ⟨fun s number => ⟨s.findRow_eq_none number, fun row => State.findRow_eq_some⟩,
    fun row l => ⟨row.card_eq_none l, fun c => Row.card_eq_some⟩, ?_⟩
  intro c r s number lane hc hs ht
  obtain ⟨check, app, hexec⟩ := exec_reported hc ht
  rw [hexec]
  exact ⟨reported_forbidden hs, fun hrole => ⟨reported_offline hs hrole, fun hm => ⟨reported_unknownRow hs hrole hm,
    fun row hrow => ⟨reported_early hs hrole hm hrow, reported_late hs hrole hm hrow⟩⟩⟩⟩

/-! ### The values of a report -/

theorem flagOf_eq_none (o : Octet) : flagOf o = none ↔ 1 < o.toNat := by
  unfold flagOf
  split
  · next h => simp [h]
  · next h0 =>
    split
    · next h => simp [h]
    · next h1 => simp only [true_iff]; bv_omega

theorem formOutcomeOf_eq_some (o : Octet) (x : FormOutcome) : formOutcomeOf o = some x ↔ o.toNat = formCode (some x) := by
  unfold formOutcomeOf
  split <;> cases x <;> simp_all [formCode]

theorem formOutcomeOf_eq_none (o : Octet) : formOutcomeOf o = none ↔ o.toNat = 0 ∨ 3 < o.toNat := by
  unfold formOutcomeOf
  split
  · next h => simp [h]
  · next h => simp [h]
  · next h => simp [h]
  · next h1 h2 h3 =>
    have others : o.toNat ≠ 1 ∧ o.toNat ≠ 2 ∧ o.toNat ≠ 3 := ⟨h1, h2, h3⟩
    exact iff_of_true rfl (by omega)

theorem orientationOf_eq_some (o : Octet) (x : Orientation) : orientationOf o = some x ↔ o.toNat = orientationCode x := by
  unfold orientationOf
  split <;> cases x <;> simp_all [orientationCode]

theorem orientationOf_eq_none (o : Octet) : orientationOf o = none ↔ 2 < o.toNat := by
  unfold orientationOf
  split
  · next h => simp [h]
  · next h => simp [h]
  · next h => simp [h]
  · next h0 h1 h2 =>
    have others : o.toNat ≠ 0 ∧ o.toNat ≠ 1 ∧ o.toNat ≠ 2 := ⟨h0, h1, h2⟩
    exact iff_of_true rfl (by omega)

theorem dischargeOf_eq_none {o : Octet} (h : o.toNat = 0 ∨ 3 < o.toNat) : dischargeOf o = none := by
  unfold dischargeOf
  split
  · omega
  · omega
  · omega
  · rfl

theorem nodup_toNat_iff {α : Type} (f : α → Octet) (l : List α) :
    (l.map fun e => (f e).toNat).Nodup ↔ (l.map f).Nodup := by
  have composed : (l.map fun e => (f e).toNat) = (l.map f).map BitVec.toNat := by rw [List.map_map]; rfl
  rw [composed]
  exact List.nodup_map_iff fun _ _ => BitVec.eq_of_toNat_eq

theorem checkForm_length {splice : Octet} {outcomes : List Octet} {r : Recipe} (h : outcomes.length ≠ r.cavities.length) :
    checkForm splice outcomes r = some .malformed := if_pos h

theorem checkForm_value {splice : Octet} {outcomes : List Octet} {r : Recipe} (h : outcomes.length = r.cavities.length)
    (hv : 1 < splice.toNat ∨ ∃ o ∈ outcomes, o.toNat = 0 ∨ 3 < o.toNat) :
    checkForm splice outcomes r = some .badValue := by
  rw [checkForm, if_neg (by exact not_not.2 h), if_pos]
  simpa only [flagOf_eq_none, List.any_eq_true, Option.isNone_iff_eq_none, formOutcomeOf_eq_none] using hv

theorem checkForm_good {splice : Octet} {outcomes : List Octet} {r : Recipe} {decoded : List FormOutcome}
    (h : outcomes.length = r.cavities.length) (hsplice : splice.toNat ≤ 1)
    (hd : outcomes.map formOutcomeOf = decoded.map some) : checkForm splice outcomes r = none := by
  rw [checkForm, if_neg (by exact not_not.2 h), if_neg]
  simp only [flagOf_eq_none, List.any_eq_true, Option.isNone_iff_eq_none]
  rintro (hbad | ⟨o, ho, hnone⟩)
  · omega
  · have : none ∈ decoded.map some := hd ▸ List.mem_map.2 ⟨o, ho, hnone⟩
    simp at this

theorem checkCavities_refuses {α : Type} {f : α → Octet} {l : List α} {r : Recipe}
    (h : l = [] ∨ 12 < l.length ∨ (∃ e ∈ l, r.cavities.length ≤ (f e).toNat) ∨ ¬ (l.map f).Nodup) :
    checkCavities (l.map fun e => (f e).toNat) r = some .malformed := by
  unfold checkCavities
  split
  · rfl
  · next hshape =>
    rw [if_pos]
    simp only [List.map_eq_nil_iff, List.length_map, not_or] at hshape
    have bad : l = [] ∨ 12 < l.length ∨ (∃ e ∈ l, r.cavityCount ≤ (f e).toNat) ∨ ¬ (l.map f).Nodup := h
    simpa [hshape, nodup_toNat_iff] using bad

theorem checkCavities_good {α : Type} {f : α → Octet} {l : List α} {r : Recipe} (h : l ≠ []) (hlen : l.length ≤ 12)
    (hlt : ∀ e ∈ l, (f e).toNat < r.cavities.length) (hn : (l.map f).Nodup) :
    checkCavities (l.map fun e => (f e).toNat) r = none := by
  rw [checkCavities, if_neg, if_neg]
  · rw [nodup_toNat_iff]
    have inside : ∀ e ∈ l, (f e).toNat < r.cavityCount := hlt
    simpa [hn] using inside
  · simp only [List.map_eq_nil_iff, List.length_map, h, false_or]
    omega

theorem checkInspection_list {entries : List InspectEntry} {r : Recipe}
    (h : checkCavities (entries.map fun e => e.cavity.toNat) r = some .malformed) :
    checkInspection entries r = some .malformed := by simp only [checkInspection, h]

theorem checkInspection_value {entries : List InspectEntry} {r : Recipe}
    (h : checkCavities (entries.map fun e => e.cavity.toNat) r = none)
    (hv : ∃ e ∈ entries, 63 < e.classSeen.toNat ∨ 2 < e.orientation.toNat) :
    checkInspection entries r = some .badValue := by
  simp only [checkInspection, h]
  rw [if_pos]
  simpa only [List.any_eq_true, Bool.or_eq_true, decide_eq_true_eq, Option.isNone_iff_eq_none, orientationOf_eq_none]
    using hv

theorem checkInspection_good {entries : List InspectEntry} {r : Recipe}
    (h : checkCavities (entries.map fun e => e.cavity.toNat) r = none)
    (hv : ∀ e ∈ entries, e.classSeen.toNat ≤ 63 ∧ e.orientation.toNat ≤ 2) : checkInspection entries r = none := by
  simp only [checkInspection, h]
  rw [if_neg]
  simp only [List.any_eq_true, Bool.or_eq_true, decide_eq_true_eq, Option.isNone_iff_eq_none, orientationOf_eq_none]
  rintro ⟨e, he, hbad⟩
  have := hv e he
  omega

theorem checkSealHit_flag {p : Port} {sealed : Octet} {c : Card} (h : 1 < sealed.toNat) :
    checkSealHit p sealed c = some .badValue := if_pos ((flagOf_eq_none sealed).2 h)

theorem checkSealHit_limit {p : Port} {sealed : Octet} {c : Card} (h : sealed.toNat ≤ 1) (hl : 4 ≤ c.tallies.get p) :
    checkSealHit p sealed c = some .malformed := by
  rw [checkSealHit, if_neg (by rw [flagOf_eq_none]; omega), if_pos (by simpa only [Config.strikeLimit] using hl)]

theorem checkSealHit_good {p : Port} {sealed : Octet} {c : Card} (h : sealed.toNat ≤ 1) (hl : c.tallies.get p < 4) :
    checkSealHit p sealed c = none := by
  rw [checkSealHit, if_neg (by rw [flagOf_eq_none]; omega), if_neg (by simp only [Config.strikeLimit]; omega)]

/-- Settles O27: the lane, and then each kind's check in its own order. -/
theorem reportContentRefusals : Obligations.ReportContentRefusals := by
  unfold Obligations.ReportContentRefusals
  refine ⟨?_, ?_⟩
  · intro c r s number lane row hc hs ht hrole hm hrow hopen hwindow hlane
    obtain ⟨check, app, hexec⟩ := exec_reported hc ht
    rw [hexec]
    exact reported_malformed_lane hs hrole hm hrow hopen hwindow (laneIn_eq_none hlane)
  · intro p tag s row number lane l card k
    refine ⟨fun splice outcomes hs ha => ?_, fun pairs hs ha hbad => ?_, fun entries hs ha => ?_,
      fun sealed t w q hs ha => ?_, fun outcome hs ha hbad => ?_⟩
    · rw [exec_formResult]
      exact ⟨fun h => reported_check_refuses hs ha rfl (checkForm_length h),
        fun h hv => reported_check_refuses hs ha rfl (checkForm_value h hv)⟩
    · rw [exec_placement]
      exact reported_check_refuses hs ha rfl (checkCavities_refuses hbad)
    · rw [exec_inspection]
      exact ⟨fun h => reported_check_refuses hs ha rfl (checkInspection_list (checkCavities_refuses h)),
        fun h hlen hlt hn hv => reported_check_refuses hs ha rfl
          (checkInspection_value (checkCavities_good h hlen hlt hn) hv)⟩
    · rw [exec_sealHit]
      exact ⟨fun h => reported_check_refuses hs ha rfl (checkSealHit_flag h),
        fun h hl => reported_check_refuses hs ha rfl (checkSealHit_limit h hl)⟩
    · rw [exec_discharge]
      exact reported_check_refuses hs ha rfl (if_pos (dischargeOf_eq_none hbad))

theorem filterMap_decoded {outcomes : List Octet} {decoded : List FormOutcome}
    (h : outcomes.map formOutcomeOf = decoded.map some) : outcomes.filterMap formOutcomeOf = decoded := by
  have := congrArg (List.filterMap id) h
  simpa only [List.filterMap_map, Function.id_comp, Function.comp_def, id, List.filterMap_some] using this

/-- Settles O28: a report whose check finds nothing changes the one card it names. -/
theorem reportsApplied : Obligations.ReportsApplied := by
  unfold Obligations.ReportsApplied
  refine ⟨formOutcomeOf_eq_some, fun p tag s row number lane l card => ⟨?_, ?_, ?_, ?_, ?_⟩⟩
  · intro splice outcomes decoded r hs ha hsplice hlen hd
    rw [exec_formResult, filterMap_decoded hd]
    exact reported_applies hs ha rfl (checkForm_good hlen hsplice hd)
  · intro pairs r hs ha h hlen hlt hn
    rw [exec_placement]
    exact reported_applies hs ha rfl (checkCavities_good h hlen hlt hn)
  · intro entries r hs ha h hlen hlt hn hv
    rw [exec_inspection]
    exact reported_applies hs ha rfl (checkInspection_good (checkCavities_good h hlen hlt hn) hv)
  · intro sealed t w q r hs ha hsealed hl
    rw [exec_sealHit]
    exact reported_applies hs ha rfl (checkSealHit_good hsealed hl)
  · intro outcome d r hs ha hd
    have decoded : dischargeOf outcome = some d := by
      obtain ⟨rfl, rfl⟩ | ⟨rfl, rfl⟩ | ⟨rfl, rfl⟩ := hd <;> rfl
    rw [exec_discharge, decoded]
    exact reported_applies hs ha rfl (if_neg (by simp [decoded]))

end Sys2Proof.Machine

/-! ## What an accepted report does to its card -/

namespace Sys2Proof.Machine

/-! ### FORM_RESULT -/

theorem setForms_eq_map {l : List FormOutcome} {b : List Cavity} (h : l.length = b.length) :
    setForms l b = (b.zip l).map fun x => { x.1 with form := some x.2 } := by
  induction l generalizing b with
  | nil => simp [setForms, List.length_eq_zero_iff.1 h.symm]
  | cons x l ih =>
    cases b with
    | nil => rfl
    | cons c b => simp only [setForms, List.zip_cons_cons, List.map_cons, ih (Nat.succ.inj h)]

/-- Settles O29: the three branches of `applyForm`. -/
theorem formResultOnCard : Obligations.FormResultOnCard := by
  unfold Obligations.FormResultOnCard
  intro p o splice outcomes c h set
  have outcomesSet : { c with cavities := setForms outcomes c.cavities } = set := by rw [setForms_eq_map h]
  simp only [applyForm, outcomesSet]
  refine ⟨fun hs => if_pos hs, fun hs bad => ?_, fun hs good => ?_⟩
  · rw [if_neg (by simp [hs]), if_pos (by simpa using bad)]
  · rw [if_neg (by simp [hs]), if_neg (by simpa using good)]

/-! ### The entry of a list for a cavity -/

theorem find_cavity_none {α : Type} {f : α → Octet} {l : List α} {i : Nat} (h : ∀ e ∈ l, (f e).toNat ≠ i) :
    (l.find? fun e => (f e).toNat = i) = none := by
  simpa [List.find?_eq_none] using h

/-- Where no cavity is named twice, the first entry of a cavity is its only one. -/
theorem find_cavity_some {α : Type} {f : α → Octet} {l : List α} {i : Nat} {e : α} (hn : (l.map f).Nodup) (he : e ∈ l)
    (hi : (f e).toNat = i) : (l.find? fun e => (f e).toNat = i) = some e := by
  cases hfind : l.find? fun e => (f e).toNat = i with
  | none => exact absurd hi (by simpa using List.find?_eq_none.1 hfind e he)
  | some x =>
    have hx : (f x).toNat = i := by simpa using List.find?_some hfind
    have same : f x = f e := BitVec.eq_of_toNat_eq (hx.trans hi.symm)
    rw [List.inj_on_of_nodup_map hn (List.mem_of_find?_eq_some hfind) he same]

/-! ### PLACEMENT -/

theorem writeEntry_absent {p : Port} {l : List Placement} (h : ∀ x ∈ l, x.station ≠ p) (n : Nat) :
    writeEntry p n l = l ++ [⟨p, n⟩] := if_neg (by simpa using h)

theorem writeEntry_present {p : Port} {l : List Placement} (h : ∃ x ∈ l, x.station = p) (n : Nat) :
    writeEntry p n l = l.map fun x => if x.station = p then ⟨p, n⟩ else x := if_pos (by simpa using h)

theorem placeInto_eq (stations : PerPort Station) (p : Port) (n : Nat) (c : Cavity) : placeInto stations p n c = { c with
    placements := writeEntry p n c.placements
    count := effectiveCount stations c.inspection (writeEntry p n c.placements)
    refill := if c.refill = some .ordered ∧ c.orderedBy = some p then some .placed else c.refill } := by
  unfold placeInto
  simp only
  split <;> rfl

theorem applyPlacement_cavity (stations : PerPort Station) (p : Port) (pairs : List PlacePair) {c : Card} {i : Nat}
    {cav : Cavity} (h : c.cavities[i]? = some cav) : (applyPlacement stations p pairs c).cavities[i]? = some
      ((pairs.find? fun e => e.cavity.toNat = i).elim cav fun e => placeInto stations p (storedCount e.count) cav) := by
  simp only [applyPlacement, getElem?_mapFrom, h, Option.map_some, Nat.zero_add, Option.some.injEq]
  generalize pairs.find? (fun e => e.cavity.toNat = i) = found
  cases found <;> rfl

/-- Settles O30: the cavity's own pair, and the two ways an entry is written. -/
theorem placementOnCavity : Obligations.PlacementOnCavity := by
  unfold Obligations.PlacementOnCavity
  intro stations p pairs c hn
  refine ⟨rfl, length_mapFrom _ _ _, fun i cav hi => ⟨fun h => ?_, fun e he hcavity written hadd hreplace => ?_⟩⟩
  · rw [applyPlacement_cavity stations p pairs hi, find_cavity_none h, Option.elim_none]
  · have entry : writeEntry p (min 15 e.count.toNat) cav.placements = written := by
      by_cases present : ∃ x ∈ cav.placements, x.station = p
      · rw [writeEntry_present present, hreplace present]
      · have absent : ∀ x ∈ cav.placements, x.station ≠ p := fun x hx hp => present ⟨x, hx, hp⟩
        rw [writeEntry_absent absent, hadd absent]
    rw [applyPlacement_cavity stations p pairs hi, find_cavity_some hn he hcavity]
    simp only [Option.elim_some, placeInto_eq, storedCount, entry]

/-! ### INSPECTION -/

theorem superseded_iff (stations : PerPort Station) (p : Port) (cav : Cavity) : superseded stations p cav = true ↔
    ∃ i, cav.inspection = some i ∧ (stations.get p).offset < (stations.get i.station).offset := by
  unfold superseded
  cases cav.inspection <;> simp

/-- A cavity with its record replaced by an entry of the camera at a port (R75, R85). -/
def recorded (stations : PerPort Station) (p : Port) (e : InspectEntry) (orientation : Orientation) (cav : Cavity) :
    Cavity :=
  { cav with
    inspection := some ⟨p, e.classSeen.toNat, min 15 e.count.toNat, orientation⟩
    count := effectiveCount stations (some ⟨p, e.classSeen.toNat, min 15 e.count.toNat, orientation⟩) cav.placements }

theorem inspectInto_of_superseded {stations : PerPort Station} {p : Port} {cav : Cavity}
    (h : superseded stations p cav = true) (spec : CavitySpec) (e : InspectEntry) :
    inspectInto stations p spec e cav = (cav, none) := if_pos h

theorem inspectInto_of_orientation {stations : PerPort Station} {p : Port} {cav : Cavity} {e : InspectEntry}
    {orientation : Orientation} (h : ¬ superseded stations p cav = true)
    (ho : orientationOf e.orientation = some orientation) (spec : CavitySpec) :
    inspectInto stations p spec e cav = (recorded stations p e orientation cav,
      inspectionFault spec e.classSeen.toNat orientation (recorded stations p e orientation cav).count) := by
  rw [inspectInto, if_neg h, ho]
  rfl

theorem first_of_three_eq_some {A B C : Prop} [Decidable A] [Decidable B] [Decidable C] (a b c x : Reason) :
    (if A then some a else if B then some b else if C then some c else none) = some x ↔
      A ∧ x = a ∨ ¬ A ∧ (B ∧ x = b ∨ ¬ B ∧ C ∧ x = c) := by
  by_cases hA : A
  · simp [hA, eq_comm]
  · by_cases hB : B
    · simp [hA, hB, eq_comm]
    · by_cases hC : C <;> simp [hA, hB, hC, eq_comm]

theorem inspectionFault_eq_some (spec : CavitySpec) (seen : Nat) (orientation : Orientation) (n : Nat) (x : Reason) :
    inspectionFault spec seen orientation n = some x ↔
      seen ≠ 0 ∧ seen ≠ spec.cls ∧ x = .wrongItem ∨
        (seen = 0 ∨ seen = spec.cls) ∧
          (spec.orient = true ∧ seen ≠ 0 ∧ orientation ≠ .ok ∧ x = .orientation ∨
            ¬ (spec.orient = true ∧ seen ≠ 0 ∧ orientation ≠ .ok) ∧
              spec.required + spec.overTol < n ∧ x = .overCount) := by
  have wrong_iff : (seen = 0 ∨ seen = spec.cls) ↔ ¬ (seen ≠ 0 ∧ seen ≠ spec.cls) := by tauto
  rw [wrong_iff, inspectionFault, first_of_three_eq_some]
  simp only [and_assoc]

/-- The reason that a camera's list finds on cavity `i` (R76). -/
def inspectReason (stations : PerPort Station) (p : Port) (entries : List InspectEntry) (i : Nat) (spec : CavitySpec)
    (cav : Cavity) : Option Reason :=
  (entries.find? fun e => e.cavity.toNat = i).bind fun e => (inspectInto stations p spec e cav).2

section
variable (stations : PerPort Station) (p : Port) (entries : List InspectEntry)

theorem getElem?_inspectFrom (k : Nat) {specs : List CavitySpec} {cavs : List Cavity} {i : Nat} {spec : CavitySpec}
    {cav : Cavity} (hs : specs[i]? = some spec) (hc : cavs[i]? = some cav) :
    (inspectFrom stations p entries k specs cavs).1[i]? = some
      ((entries.find? fun e => e.cavity.toNat = k + i).elim cav fun e => (inspectInto stations p spec e cav).1) := by
  induction specs generalizing k cavs i with
  | nil => simp at hs
  | cons s specs ih =>
    cases cavs with
    | nil => simp at hc
    | cons c cavs =>
      cases i with
      | zero =>
        simp only [List.getElem?_cons_zero, Option.some.injEq] at hs hc
        subst hs hc
        simp only [inspectFrom, Nat.add_zero]
        generalize entries.find? (fun e => e.cavity.toNat = k) = found
        cases found <;> rfl
      | succ i =>
        have later := ih (k + 1) (by simpa using hs) (by simpa using hc)
        rw [Nat.add_right_comm, Nat.add_assoc] at later
        rw [← later]
        simp only [inspectFrom]
        split <;> rfl

/-- The reasons found are those of the first cavity, if any, and then those of the others (R77). -/
theorem inspectFrom_cons_reasons (k : Nat) (spec : CavitySpec) (specs : List CavitySpec) (cav : Cavity)
    (cavs : List Cavity) : (inspectFrom stations p entries k (spec :: specs) (cav :: cavs)).2
      = (inspectReason stations p entries k spec cav).toList ++ (inspectFrom stations p entries (k + 1) specs cavs).2 := by
  simp only [inspectFrom, inspectReason]
  split
  · next e he => simp [he]
  · next he => simp [he]

theorem inspectFrom_no_reason {k : Nat} {specs : List CavitySpec} {cavs : List Cavity}
    (h : ∀ (i : Nat) (spec : CavitySpec) (cav : Cavity), specs[i]? = some spec → cavs[i]? = some cav →
      inspectReason stations p entries (k + i) spec cav = none) :
    (inspectFrom stations p entries k specs cavs).2 = [] := by
  induction specs generalizing k cavs with
  | nil => simp [inspectFrom]
  | cons spec specs ih =>
    cases cavs with
    | nil => simp [inspectFrom]
    | cons cav cavs =>
      have first : inspectReason stations p entries k spec cav = none := h 0 spec cav rfl rfl
      rw [inspectFrom_cons_reasons, first, ih fun i x y hx hy => ?_]
      · rfl
      · rw [Nat.add_assoc, Nat.add_comm 1]
        exact h (i + 1) x y (by simpa using hx) (by simpa using hy)

theorem inspectFrom_first_reason {k : Nat} {specs : List CavitySpec} {cavs : List Cavity} {i : Nat} {spec : CavitySpec}
    {cav : Cavity} {x : Reason} (hs : specs[i]? = some spec) (hc : cavs[i]? = some cav)
    (hx : inspectReason stations p entries (k + i) spec cav = some x)
    (h : ∀ (j : Nat) (spec : CavitySpec) (cav : Cavity), j < i → specs[j]? = some spec → cavs[j]? = some cav →
      inspectReason stations p entries (k + j) spec cav = none) :
    (inspectFrom stations p entries k specs cavs).2.head? = some x := by
  induction specs generalizing k cavs i with
  | nil => simp at hs
  | cons s specs ih =>
    cases cavs with
    | nil => simp at hc
    | cons c cavs =>
      rw [inspectFrom_cons_reasons]
      cases i with
      | zero =>
        simp only [List.getElem?_cons_zero, Option.some.injEq] at hs hc
        subst hs hc
        rw [Nat.add_zero] at hx
        simp [hx]
      | succ i =>
        have first : inspectReason stations p entries k s c = none := h 0 s c (Nat.succ_pos i) rfl rfl
        rw [first]
        refine ih (by simpa using hs) (by simpa using hc) ?_ fun j y z hj hy hz => ?_
        · rw [Nat.add_assoc, Nat.add_comm 1]
          exact hx
        · rw [Nat.add_assoc, Nat.add_comm 1]
          exact h (j + 1) y z (Nat.succ_lt_succ hj) (by simpa using hy) (by simpa using hz)

theorem inspectFrom_congr {listed : List InspectEntry}
    (h : ∀ i, (listed.find? fun e => e.cavity.toNat = i) = entries.find? fun e => e.cavity.toNat = i) (k : Nat)
    (specs : List CavitySpec) (cavs : List Cavity) :
    inspectFrom stations p listed k specs cavs = inspectFrom stations p entries k specs cavs := by
  induction specs generalizing k cavs with
  | nil => simp [inspectFrom]
  | cons spec specs ih =>
    cases cavs with
    | nil => simp [inspectFrom]
    | cons cav cavs => simp only [inspectFrom, ih, h]

end

theorem find_cavity_perm {listed entries : List InspectEntry} (hn : (entries.map (·.cavity)).Nodup)
    (h : listed.Perm entries) (i : Nat) :
    (listed.find? fun e => e.cavity.toNat = i) = entries.find? fun e => e.cavity.toNat = i := by
  by_cases named : ∃ e ∈ entries, e.cavity.toNat = i
  · obtain ⟨e, he, hi⟩ := named
    rw [find_cavity_some hn he hi, find_cavity_some ((h.map _).nodup_iff.2 hn) (h.mem_iff.2 he) hi]
  · have absent : ∀ e ∈ entries, e.cavity.toNat ≠ i := fun e he hi => named ⟨e, he, hi⟩
    rw [find_cavity_none absent, find_cavity_none fun e he => absent e (h.mem_iff.1 he)]

theorem Card.condemn_restored (c : Card) (l : List Cavity) (x : Reason) (q : Option Port) (o : Nat) :
    { ({ c with cavities := l }).condemn x q o with cavities := c.cavities } = c.condemn x q o := by
  unfold Card.condemn
  split <;> rfl

section
variable (stations : PerPort Station) (p : Port) (o : Nat) (r : Recipe) (entries : List InspectEntry) (c : Card)

theorem applyInspection_cavities : (applyInspection stations p o r entries c).cavities
    = (inspectFrom stations p entries 0 r.cavities c.cavities).1 := by
  unfold applyInspection
  simp only
  split <;> simp

/-- But for the cavities, an INSPECTION condemns its card with the first reason found, or leaves it (R77). -/
theorem applyInspection_card : { applyInspection stations p o r entries c with cavities := c.cavities }
    = (inspectFrom stations p entries 0 r.cavities c.cavities).2.head?.elim c fun x => c.condemn x (some p) o := by
  unfold applyInspection
  simp only
  generalize inspectFrom stations p entries 0 r.cavities c.cavities = done
  cases done.2.head? with
  | none => rfl
  | some x => exact Card.condemn_restored c done.1 x (some p) o

variable {r entries c}

/-- On a list that names no cavity twice, a reason found on a cavity is a fault of its one entry. -/
theorem inspectReason_eq_some (hn : (entries.map (·.cavity)).Nodup) (ho : ∀ e ∈ entries, e.orientation.toNat ≤ 2)
    (i : Nat) (spec : CavitySpec) (cav : Cavity) (x : Reason) :
    inspectReason stations p entries i spec cav = some x ↔ ∃ e orientation, e ∈ entries ∧ e.cavity.toNat = i ∧
      ¬ superseded stations p cav = true ∧ orientationOf e.orientation = some orientation ∧
      inspectionFault spec e.classSeen.toNat orientation (recorded stations p e orientation cav).count = some x := by
  constructor
  · intro h
    obtain ⟨e, hfind, hx⟩ := Option.bind_eq_some_iff.1 h
    have he := List.mem_of_find?_eq_some hfind
    have hi : e.cavity.toNat = i := by simpa using List.find?_some hfind
    by_cases hsup : superseded stations p cav = true
    · rw [inspectInto_of_superseded hsup] at hx
      cases hx
    · cases horient : orientationOf e.orientation with
      | none => exact absurd ((orientationOf_eq_none _).1 horient) (by have := ho e he; omega)
      | some orientation =>
        rw [inspectInto_of_orientation hsup horient] at hx
        exact ⟨e, orientation, he, hi, hsup, horient, hx⟩
  · rintro ⟨e, orientation, he, hi, hsup, horient, hx⟩
    rw [inspectReason, find_cavity_some hn he hi, Option.bind_some, inspectInto_of_orientation hsup horient]
    exact hx

end

/-- Settles O31: each cavity by its own entry, and the reasons in cavity order by induction on the cavities. -/
theorem inspectionOnCard : Obligations.InspectionOnCard := by
  unfold Obligations.InspectionOnCard
  refine ⟨orientationOf_eq_some, fun stations p o r entries c hn ho hlen => ?_⟩
  intro higher record fault
  have higher_iff (cav : Cavity) : higher cav ↔ superseded stations p cav = true := (superseded_iff stations p cav).symm
  have fault_iff (i : Nat) (x : Reason) : fault i x ↔ ∃ spec cav, CavityAt r c i spec cav ∧
      inspectReason stations p entries i spec cav = some x := by
    simp only [inspectReason_eq_some stations p hn ho, inspectionFault_eq_some, fault, higher_iff]
    constructor
    · rintro ⟨spec, cav, e, orientation, hc, rest⟩
      exact ⟨spec, cav, hc, e, orientation, rest⟩
    · rintro ⟨spec, cav, hc, e, orientation, rest⟩
      exact ⟨spec, cav, e, orientation, hc, rest⟩
  have cavity {i : Nat} {spec : CavitySpec} {cav : Cavity} (hc : CavityAt r c i spec cav) :=
    getElem?_inspectFrom stations p entries 0 hc.1 hc.2
  simp only [Nat.zero_add] at cavity
  refine ⟨fun listed h => ?_, fun i spec cav hc => ⟨fun h => ?_, fun h => ?_, fun e he orientation hi horient h => ?_⟩,
    fun i x hx first => ?_, fun none => ?_⟩
  · simp only [applyInspection, inspectFrom_congr stations p entries (find_cavity_perm hn h)]
  · rw [applyInspection_cavities, cavity hc, find_cavity_none h, Option.elim_none]
  · have ignored (e : InspectEntry) : (inspectInto stations p spec e cav).1 = cav := by
      rw [inspectInto_of_superseded ((higher_iff cav).1 h)]
    rw [applyInspection_cavities, cavity hc]
    simp only [ignored]
    cases entries.find? fun e => e.cavity.toNat = i <;> rfl
  · rw [applyInspection_cavities, cavity hc, find_cavity_some hn he hi]
    simp only [Option.elim_some, inspectInto_of_orientation (fun hs => h ((higher_iff cav).2 hs)) horient]
    rfl
  · obtain ⟨spec, cav, hc, hreason⟩ := (fault_iff i x).1 hx
    have head := inspectFrom_first_reason stations p entries (k := 0) hc.1 hc.2 (by rw [Nat.zero_add]; exact hreason)
      fun j y z hj hy hz => by
        rw [Nat.zero_add]
        refine Option.eq_none_iff_forall_not_mem.2 fun w hw => ?_
        exact absurd (first j w ((fault_iff j w).2 ⟨y, z, ⟨hy, hz⟩, hw⟩)) (by omega)
    rw [applyInspection_card, head, Option.elim_some]
  · have nothing : (inspectFrom stations p entries 0 r.cavities c.cavities).2 = [] :=
      inspectFrom_no_reason stations p entries fun i y z hy hz => by
        rw [Nat.zero_add]
        exact Option.eq_none_iff_forall_not_mem.2 fun w hw => none i w ((fault_iff i w).2 ⟨y, z, ⟨hy, hz⟩, hw⟩)
    rw [applyInspection_card, nothing]
    rfl

/-! ### SEAL_HIT -/

/-- A condemnation does not look at the seal summary. -/
theorem Card.condemn_with_summary (c : Card) (m : Seal) (x : Reason) (p : Option Port) (o : Nat) :
    { c.condemn x p o with summary := m } = ({ c with summary := m }).condemn x p o := by
  unfold Card.condemn
  split <;> rfl

theorem wasClamped_iff (temperature dwell pressure : Nat) :
    (min 3000 temperature ≠ temperature ∨ min 5000 dwell ≠ dwell ∨ min 1000 pressure ≠ pressure) ↔
      (3000 < temperature ∨ 5000 < dwell ∨ 1000 < pressure) := by
  omega

theorem Seal.addDose_eq (m : Seal) (dose : Nat) : m.addDose dose = { m with
    dose := if m.dose + dose ≤ 65535 then m.dose + dose else 65535
    saturated := if m.dose + dose ≤ 65535 then m.saturated else true } := by
  unfold Seal.addDose
  split <;> rfl

/-- Settles O32: the strike, and for a sealed hit the pressure check on the card with its dose. -/
theorem sealHitOnCard : Obligations.SealHitOnCard := by
  unfold Obligations.SealHitOnCard
  intro p o r temperature dwell pressure c t w q flag tallied
  have flagged : (c.summary.clamped || decide (min 3000 temperature ≠ temperature ∨ min 5000 dwell ≠ dwell ∨
      min 1000 pressure ≠ pressure)) = flag :=
    congrArg (c.summary.clamped || ·) (decide_eq_decide.mpr (wasClamped_iff temperature dwell pressure))
  refine ⟨?_, fun hq => ?_, fun hq => ?_⟩
  · simp only [applySealHit, flagged]
    rfl
  · simp only [applySealHit, flagged, if_true]
    rw [if_neg (by exact not_lt.2 hq), Seal.addDose_eq]
    rfl
  · simp only [applySealHit, flagged, if_true]
    rw [if_pos (by exact hq), Card.condemn_with_summary, Seal.addDose_eq]
    rfl

/-! ### The effective count -/

theorem sum_filter_counts (f : Placement → Prop) [DecidablePred f] (l : List Placement) :
    ((l.filter fun e => f e).map (·.count)).sum = (l.map fun e => if f e then e.count else 0).sum := by
  induction l with
  | nil => rfl
  | cons e l ih => by_cases h : f e <;> simp [h, ih]

theorem effectiveCount_perm {l m : List Placement} (h : l.Perm m) (stations : PerPort Station) (i : Option Inspection) :
    effectiveCount stations i l = effectiveCount stations i m := by
  unfold effectiveCount
  split
  · rw [((h.filter _).map _).sum_eq]
  · rw [(h.map _).sum_eq]

/-- A placement and an inspection that is not superseded write different parts of the record, and either recomputes the
count from both. -/
theorem inspectInto_placeInto {stations : PerPort Station} {q : Port} {c : Cavity} (h : superseded stations q c = false)
    (p : Port) (n : Nat) (spec : CavitySpec) (e : InspectEntry) :
    (inspectInto stations q spec e (placeInto stations p n c)).1
      = placeInto stations p n (inspectInto stations q spec e c).1 := by
  have h' : superseded stations q (placeInto stations p n c) = false := by rw [placeInto_eq]; exact h
  simp only [inspectInto, h, h', Bool.false_eq_true, if_false]
  simp only [placeInto_eq, Cavity.recount]

/-- Settles O35. -/
theorem effectiveCountLaw : Obligations.EffectiveCountLaw := by
  unfold Obligations.EffectiveCountLaw
  refine ⟨fun stations l => ⟨rfl, fun i => ?_⟩, fun stations i l m h => effectiveCount_perm h stations i,
    fun stations p q n spec e c h => inspectInto_placeInto h p n spec e⟩
  simp only [effectiveCount, sum_filter_counts]

end Sys2Proof.Machine

/-! ## START: its outcomes and its nine checks -/

namespace Sys2Proof.Machine

/-! ### A command in service with its permission -/

/-- A command that has its permission ends as its own application says. -/
theorem serve_permitted {r : Request} {s : State} (hs : InService r s) {has : Perms → Bool} {p : Port}
    (hp : has (s.station p).perms = true) {app : State → State × Answer} {s1 : State} {a : Answer}
    (h : app s = (s1, a)) : serve r (withPermission has p app) s = .next (finished r a s s1) := by
  rw [serve_inService hs, withPermission_of hp, h]

/-! ### The checks in order -/

theorem firstFailing_eq_some {checks : List Bool} {n : Nat} (k : Nat) (h : ∀ m < n, checks[m]? = some true)
    (hn : checks[n]? = some false) : firstFailing k checks = some (n + k) := by
  induction checks generalizing n k with
  | nil => simp at hn
  | cons ok rest ih =>
    cases n with
    | zero =>
      obtain rfl : ok = false := by simpa using hn
      rw [Nat.zero_add]
      rfl
    | succ n =>
      obtain rfl : ok = true := by simpa using h 0 (Nat.succ_pos n)
      rw [firstFailing, if_pos rfl, ih (k + 1) (fun m hm => by simpa using h (m + 1) (Nat.succ_lt_succ hm))
        (by simpa using hn), Nat.add_right_comm, Nat.add_assoc]

theorem applyStart_run {s : State} (h : s.line = .run) :
    applyStart s = (s, .response (.start .run s.exitOffset s.sealOffset)) := if_pos h

theorem applyStart_refuses {s : State} (h : s.line ≠ .run) {n : Nat} (hbefore : ∀ m < n, (startChecks s)[m]? = some true)
    (hn : (startChecks s)[n]? = some false) : applyStart s = (s, .refusal .configInvalid (n + 1)) := by
  rw [applyStart, if_neg h, firstFailing_eq_some 1 hbefore hn]

theorem applyStart_passes {s : State} (h : s.line ≠ .run) (pass : ∀ check ∈ startChecks s, check = true) {e s1 : Nat}
    (he : startExit s = some e) (hs1 : lowestSeal s = some s1) : applyStart s =
      (changeLine .run { s with exitOffset := some e, sealOffset := some s1 },
        .response (.start .run (some e) (some s1))) := by
  rw [applyStart, if_neg h, (firstFailing_eq_none_iff 1 _).2 pass, he, hs1]

/-! ### The ports of a role -/

theorem nodup_portsWith (s : State) (role : Role) : (s.portsWith role).Nodup := Port.all_nodup.filter _

theorem portsWith_eq_singleton {s : State} {role : Role} {p : Port} :
    s.portsWith role = [p] ↔ (s.station p).role = role ∧ ∀ q, (s.station q).role = role → q = p := by
  rw [← List.perm_singleton, List.perm_ext_iff_of_nodup (nodup_portsWith s role) (List.nodup_singleton p)]
  simp only [mem_portsWith, List.mem_singleton]
  exact ⟨fun h => ⟨(h p).2 rfl, fun q => (h q).1⟩, fun h q => ⟨h.2 q, fun hq => hq ▸ h.1⟩⟩

theorem portsWith_eq_nil {s : State} {role : Role} : s.portsWith role = [] ↔ ∀ q, (s.station q).role ≠ role := by
  simp only [List.eq_nil_iff_forall_not_mem, mem_portsWith, ne_eq]

theorem lowestSeal_eq {s : State} {p : Port} (hp : (s.station p).role = .seal)
    (h : ∀ q, (s.station q).role = .seal → (s.station p).offset ≤ (s.station q).offset) :
    lowestSeal s = some (s.station p).offset := by
  refine List.min?_eq_some_iff.2 ⟨List.mem_map.2 ⟨p, mem_portsWith.2 hp, rfl⟩, fun o ho => ?_⟩
  obtain ⟨q, hq, rfl⟩ := List.mem_map.1 ho
  exact h q (mem_portsWith.1 hq)

theorem startExit_eq {s : State} {p : Port} (hp : (s.station p).role = .punch)
    (h : ∀ q, (s.station q).role = .punch → q = p) : startExit s = some (s.closeOffset p) := by
  rw [startExit, portsWith_eq_singleton.2 ⟨hp, h⟩]
  rfl

/-- Check 2 leaves one PUNCH station. -/
theorem punch_unique_of_startCheck2 {s : State} (h : startCheck2 s = true) {p q : Port}
    (hp : (s.station p).role = .punch) (hq : (s.station q).role = .punch) : q = p := by
  obtain ⟨x, hx, -⟩ := startCheck2_iff.1 h
  obtain ⟨-, only⟩ := portsWith_eq_singleton.1 hx
  rw [only p hp, only q hq]

/-- Settles O36: the three branches of `applyStart`. -/
theorem startOutcomes : Obligations.StartOutcomes := by
  unfold Obligations.StartOutcomes
  intro p tag s r hs hp
  refine ⟨fun h => serve_permitted hs hp (applyStart_run h),
    fun h n hbefore hn => serve_permitted hs hp (applyStart_refuses h hbefore hn),
    fun h pass punch lowest hpunch hlowest hmin => serve_permitted hs hp (applyStart_passes h pass ?_ ?_)⟩
  · exact startExit_eq hpunch fun q hq => punch_unique_of_startCheck2 (pass _ (by simp [startChecks])) hpunch hq
  · exact lowestSeal_eq hlowest hmin

/-! ### Each check in the terms of its row -/

theorem onLine_iff (role : Role) : role.onLine = true ↔ role ≠ .unassigned ∧ role ≠ .supervisor := by
  cases role <;> decide

theorem startCheck3_iff {s : State} : startCheck3 s = true ↔ ∃ p q, (s.station p).role = .seal ∧
    (s.station q).role = .seal ∧ ∀ x, (s.station x).role = .seal → x = p ∨ x = q := by
  have lengths : startCheck3 s = true ↔ (s.portsWith .seal).length = 1 ∨ (s.portsWith .seal).length = 2 := by
    simp [startCheck3]
  rw [lengths]
  constructor
  · rintro (h | h)
    · obtain ⟨p, hp⟩ := List.length_eq_one_iff.1 h
      obtain ⟨hrole, only⟩ := portsWith_eq_singleton.1 hp
      exact ⟨p, p, hrole, hrole, fun x hx => .inl (only x hx)⟩
    · obtain ⟨p, q, hpq⟩ := List.length_eq_two.1 h
      have mem (x : Port) : (s.station x).role = .seal ↔ x = p ∨ x = q := by rw [← mem_portsWith, hpq]; simp
      exact ⟨p, q, (mem p).2 (.inl rfl), (mem q).2 (.inr rfl), fun x => (mem x).1⟩
  · rintro ⟨p, q, hp, -, only⟩
    have most : (s.portsWith .seal).length ≤ 2 :=
      (List.subperm_of_subset (nodup_portsWith s .seal) (l₂ := [p, q]) fun x hx => by
        simpa using only x (mem_portsWith.1 hx)).length_le
    have some : 0 < (s.portsWith .seal).length := List.length_pos_of_mem (mem_portsWith.2 hp)
    omega

theorem startCheck4_iff {s : State} : startCheck4 s = true ↔ ∀ p q, p ≠ q → (s.station p).role.onLine = true →
    (s.station q).role.onLine = true → (s.station p).offset ≠ (s.station q).offset := by
  have nodup : (linePorts s).Nodup := Port.all_nodup.filter _
  rw [startCheck4, decide_eq_true_iff, List.nodup_map_iff_inj_on nodup]
  simp only [mem_linePorts]
  exact ⟨fun h p q hne hp hq ho => hne (h p hp q hq ho), fun h p hp q hq ho => by_contra fun hne => h p q hne hp hq ho⟩

theorem startCheck5_iff {s : State} (h3 : startCheck3 s = true) : startCheck5 s = true ↔ ∀ p q,
    ((s.station p).role = .form ∨ (s.station p).role = .feed ∨ (s.station p).role = .inspect ∨
      (s.station p).role = .topup) → (s.station q).role = .seal → s.closeOffset p ≤ (s.station q).offset := by
  obtain ⟨a, b, ha, -, -⟩ := startCheck3_iff.1 h3
  cases hlow : lowestSeal s with
  | none =>
    rw [lowestSeal, List.min?_eq_none_iff, List.map_eq_nil_iff] at hlow
    exact absurd ha (portsWith_eq_nil.1 hlow a)
  | some s1 =>
    obtain ⟨⟨low, hlowRole, rfl⟩, lowest⟩ := lowestSeal_spec hlow
    simp only [startCheck5, hlow, List.all_eq_true, List.mem_append, mem_portsWith, decide_eq_true_eq]
    constructor
    · exact fun h p q hp hq => (h p (by tauto)).trans (lowest q hq)
    · exact fun h p hp => h p low (by tauto) hlowRole

theorem startCheck6_iff {s : State} : startCheck6 s = true ↔ ∀ p q, (s.station p).role = .seal →
    (s.station q).role = .punch → s.closeOffset p ≤ (s.station q).offset := by
  simp only [startCheck6, List.all_eq_true, mem_portsWith, decide_eq_true_eq]
  exact ⟨fun h p q hp hq => h p hp q hq, fun h p hp q hq => h p q hp hq⟩

theorem countP_or_of_disjoint {α : Type} {f g : α → Bool} (l : List α) (h : ∀ x, f x = true → g x = true → False) :
    l.countP (fun x => f x || g x) = l.countP f + l.countP g := by
  induction l with
  | nil => rfl
  | cons x l ih =>
    simp only [List.countP_cons, ih]
    cases hf : f x <;> cases hg : g x
    · simp
    · simp; omega
    · simp; omega
    · exact (h x hf hg).elim

theorem length_portsWith (s : State) (role : Role) :
    (s.portsWith role).length = Port.all.countP fun p => (s.station p).role = role :=
  List.countP_eq_length_filter.symm

theorem startCheck7_iff {s : State} : startCheck7 s = true ↔
    Port.all.countP (fun p => (s.station p).role = .feed ∨ (s.station p).role = .topup) ≤ 4 ∧
      Port.all.countP (fun p => (s.station p).role = .inspect) ≤ 3 ∧
      Port.all.countP (fun p => (s.station p).role = .topup) ≤ 2 := by
  have sum := countP_or_of_disjoint (f := fun p => decide ((s.station p).role = .feed))
    (g := fun p => decide ((s.station p).role = .topup)) Port.all fun p hf ht => by simp_all
  simp only [startCheck7, length_portsWith, ← sum, Bool.and_eq_true, decide_eq_true_eq, and_assoc, Bool.decide_or]

theorem startCheck8_iff {s : State} : startCheck8 s = true ↔ ∃ id, s.selected = some id ∧ (s.recipe id).valid = true ∧
    (∀ c ∈ (s.recipe id).cavities, ∀ q, c.feeder = some q → (s.station q).role = .feed) ∧
    ((∃ c ∈ (s.recipe id).cavities, c.verify = true) → ∃ q, (s.station q).role = .inspect) := by
  unfold startCheck8
  cases s.selected with
  | none => simp
  | some id =>
    have camera : (s.portsWith .inspect).isEmpty = false ↔ ∃ q, (s.station q).role = .inspect := by
      rw [← Bool.not_eq_true, List.isEmpty_iff, portsWith_eq_nil]
      simp
    have verified : (!(s.recipe id).cavities.any (·.verify) || !(s.portsWith .inspect).isEmpty) = true ↔
        ((∃ c ∈ (s.recipe id).cavities, c.verify = true) → ∃ q, (s.station q).role = .inspect) := by
      rw [← camera, ← List.any_eq_true]
      cases (s.recipe id).cavities.any (·.verify) <;> simp
    simp only [Bool.and_eq_true, List.all_eq_true, verified, Option.some.injEq, exists_eq_left', and_assoc]
    refine and_congr_right fun _ => and_congr_left fun _ => forall₂_congr fun c _ => ?_
    cases c.feeder <;> simp

theorem lowestInspect_spec {s : State} {q : Port} (h : lowestInspect s = some q) : (s.station q).role = .inspect ∧
    ∀ x, (s.station x).role = .inspect → (s.station q).offset ≤ (s.station x).offset := by
  have low := List.find?_some h
  simp only [List.all_eq_true, mem_portsWith, decide_eq_true_eq] at low
  exact ⟨mem_portsWith.1 (List.mem_of_find?_eq_some h), low⟩

theorem lowestInspect_of_lowest {s : State} {q : Port} (hq : (s.station q).role = .inspect)
    (h : ∀ x, (s.station x).role = .inspect → (s.station q).offset ≤ (s.station x).offset) :
    ∃ x, lowestInspect s = some x := by
  cases hfind : lowestInspect s with
  | some x => exact ⟨x, rfl⟩
  | none =>
    have none := List.find?_eq_none.1 hfind q (mem_portsWith.2 hq)
    simp only [List.all_eq_true, mem_portsWith, decide_eq_true_eq] at none
    exact absurd h none

theorem startCheck9_iff {s : State} (h4 : startCheck4 s = true) : startCheck9 s = true ↔
    ∀ p, (s.station p).role = .topup → ∃ q, (s.station q).role = .inspect ∧
      (∀ x, (s.station x).role = .inspect → (s.station q).offset ≤ (s.station x).offset) ∧
      s.closeOffset q < (s.station p).offset := by
  rw [startCheck9, Bool.or_eq_true, List.isEmpty_iff, portsWith_eq_nil]
  constructor
  · rintro (none | behind) p hp
    · exact absurd hp (none p)
    · cases hlow : lowestInspect s with
      | none => simp [hlow] at behind
      | some q =>
        obtain ⟨hq, low⟩ := lowestInspect_spec hlow
        simp only [hlow, List.all_eq_true, mem_portsWith, decide_eq_true_eq] at behind
        exact ⟨q, hq, low, behind p hp⟩
  · intro h
    by_cases any : ∃ p, (s.station p).role = .topup
    · obtain ⟨p, hp⟩ := any
      obtain ⟨q, hq, low, -⟩ := h p hp
      obtain ⟨x, hx⟩ := lowestInspect_of_lowest hq low
      obtain ⟨hxRole, xlow⟩ := lowestInspect_spec hx
      refine .inr ?_
      simp only [hx, List.all_eq_true, mem_portsWith, decide_eq_true_eq]
      intro p hp
      obtain ⟨q, hq, low, behind⟩ := h p hp
      have same : x = q := eq_of_offset_eq h4 (by rw [hxRole]; rfl) (by rw [hq]; rfl)
        (Nat.le_antisymm (xlow q hq) (low x hxRole))
      exact same ▸ behind
    · exact .inl fun p hp => any ⟨p, hp⟩

/-- Settles O37: check by check. -/
theorem startChecksMean : Obligations.StartChecksMean := by
  unfold Obligations.StartChecksMean
  refine ⟨onLine_iff, fun s => ⟨rfl, fun p hp h => startExit_eq hp h, fun p hp h => lowestSeal_eq hp h, ?_, ?_,
    startCheck3_iff, startCheck4_iff, startCheck5_iff, startCheck6_iff, startCheck7_iff, startCheck8_iff,
    startCheck9_iff⟩⟩
  · simp only [startCheck1_iff, portsWith_eq_singleton, and_assoc]
  · simp only [startCheck2_iff, portsWith_eq_singleton, and_assoc]
    rfl

end Sys2Proof.Machine

/-! ## The commands that need a permission -/

namespace Sys2Proof.Machine

/-! ### The values that operands name -/

theorem getElem?_ports (q : Port) : Port.all[portNat q]? = some q := by cases q <;> rfl

theorem portNat_lt (q : Port) : portNat q < 8 := by cases q <;> decide

theorem portOf_eq_some {o : Octet} {q : Port} : portOf o = some q ↔ o.toNat = portNat q := by
  constructor
  · intro h
    exact (List.getElem?_inj (List.getElem?_eq_some_iff.1 h).1 Port.all_nodup).1 (h.trans (getElem?_ports q).symm)
  · intro h
    rw [portOf, h, getElem?_ports]

theorem portOf_eq_none {o : Octet} : portOf o = none ↔ 7 < o.toNat := List.getElem?_eq_none_iff

theorem recipeIdOf_eq_some {o : Octet} {id : RecipeId} (h : o.toNat = id.val) : recipeIdOf o = some id := by
  have hlt : o.toNat < 16 := h ▸ id.isLt
  rw [recipeIdOf, dif_pos hlt]
  exact congrArg some (Fin.ext h)

theorem recipeIdOf_eq_none {o : Octet} (h : 15 < o.toNat) : recipeIdOf o = none := dif_neg (by omega)

theorem roleOf_eq_some (o : Octet) (role : Role) : roleOf o = some role ↔ o = roleOctet role := by
  constructor
  · intro h
    unfold roleOf at h
    split at h <;> cases h <;> exact BitVec.eq_of_toNat_eq ‹_›
  · rintro rfl
    cases role <;> rfl

theorem modeOf_eq_some (o : Octet) (mode : Mode) : modeOf o = some mode ↔ o = modeOctet mode := by
  constructor
  · intro h
    unfold modeOf at h
    split at h
    · cases h
      assumption
    · split at h <;> cases h
      assumption
  · rintro rfl
    cases mode <;> rfl

theorem modeOf_eq_none {o : Octet} (h : 1 < o.toNat) : modeOf o = none := by
  rw [modeOf, if_neg (by rintro rfl; exact absurd h (by decide)), if_neg (by rintro rfl; exact absurd h (by decide))]

theorem roleOf_bound {o : Octet} {role : Role} (h : roleOf o = some role) : o.toNat ≤ 7 := by
  rw [(roleOf_eq_some o role).1 h]
  cases role <;> decide

theorem modeOf_bound {o : Octet} {mode : Mode} (h : modeOf o = some mode) : o.toNat ≤ 1 := by
  rw [(modeOf_eq_some o mode).1 h]
  cases mode <;> decide

theorem flagOf_of_le {o : Octet} (h : o.toNat ≤ 1) : flagOf o = some (o == 1) := by
  have cases01 : o = 0 ∨ o = 1 := by bv_omega
  obtain rfl | rfl := cases01 <;> rfl

theorem permsOf_bound {o : Octet} {perms : Perms} (h : permsOf o = some perms) : o.toNat ≤ 7 := by
  unfold permsOf at h
  split at h
  · omega
  · cases h

/-! ### STOP_FORMING, SELECT_RECIPE, RELEASE_HOLD and PURGE -/

theorem applyStopForming_run {s : State} (h : s.line = .run) {line : LineState}
    (hline : (if s.rows = [] then LineState.idle else .drain) = line) :
    applyStopForming s = (changeLine line s, .response (.stopForming line)) := by
  rw [applyStopForming, if_pos h, hline]

/-- Settles O38: each application by the branch it takes. -/
theorem lineCommands : Obligations.LineCommands := by
  unfold Obligations.LineCommands
  intro p tag s hp
  refine ⟨fun hs => ⟨fun h hrows => serve_permitted hs hp (applyStopForming_run h (if_neg hrows)),
      fun h hrows => serve_permitted hs hp (applyStopForming_run h (if_pos hrows)),
      fun h => serve_permitted hs hp (if_neg h)⟩,
    fun o hs => ⟨fun h => serve_permitted hs hp ?_, fun id hid => ⟨fun h => serve_permitted hs hp ?_,
      fun h => serve_permitted hs hp ?_⟩⟩, fun hs => serve_permitted hs hp rfl⟩
  · rw [applySelectRecipe, recipeIdOf_eq_none h]
  · simp only [applySelectRecipe, recipeIdOf_eq_some hid, h, Bool.false_eq_true, if_false]
  · simp only [applySelectRecipe, recipeIdOf_eq_some hid, h, if_true]

/-- Settles O39: the application of PURGE, written out. -/
theorem purgeEmptiesMap : Obligations.PurgeEmptiesMap := by
  unfold Obligations.PurgeEmptiesMap
  intro p tag s r hs hp cards
  exact serve_permitted hs hp rfl

/-! ### CONDEMN -/

theorem openToCondemn_eq (c : Card) : openToCondemn c = decide (c.state ≠ .frozen ∧ c.reason = none) := by
  rw [Bool.eq_iff_iff]
  simp [openToCondemn]

theorem countTaken_eq (mask : Octet) (test : Card → Bool) (row : Row) :
    countTaken mask test row = row.cards.countP fun c => lanesMeet mask row c && test c :=
  List.countP_eq_length_filter.symm

/-- CONDEMN on one card: it is condemned OPERATOR where its lane is taken and it is open to it (R115, R120). -/
theorem condemn_taken (mask : Octet) (row : Row) (c : Card) :
    (if lanesMeet mask row c then c.condemn .operator none row.offset else c)
      = if lanesMeet mask row c && openToCondemn c then
          { c with reason := some .operator, station := none, condemnOffset := some row.offset } else c := by
  rw [openToCondemn_eq]
  by_cases hopen : c.state ≠ .frozen ∧ c.reason = none
  · rw [Card.condemn_of_uncondemned hopen.2 hopen.1, decide_eq_true hopen, Bool.and_true]
  · have shut : c.condemn .operator none row.offset = c := if_neg fun h => hopen h.symm
    rw [shut, decide_eq_false hopen, Bool.and_false, if_neg Bool.false_ne_true, ite_self]

theorem condemnRow_eq (mask : Octet) (row : Row) : condemnRow mask row =
    { row with cards := row.cards.map fun c => if lanesMeet mask row c && openToCondemn c then
        { c with reason := some .operator, station := none, condemnOffset := some row.offset } else c } := by
  simp only [condemnRow, condemn_taken]

theorem applyCondemn_range {count mask : Octet} (hlow : 1 ≤ count.toNat) (hhigh : count.toNat ≤ 64)
    (hmask : 1 ≤ mask.toNat) (hmask' : mask.toNat ≤ 15) (first : Word) (s : State) : applyCondemn first count mask s =
      (let inRange := fun row : Row => inRowRange first count.toNat row.number
       ({ s with rows := s.rows.map fun row => if inRange row then condemnRow mask row else row },
        .response (.condemn (s.rows.countP inRange)
          ((s.rows.filter inRange).map (countTaken mask openToCondemn)).sum
          ((s.rows.filter inRange).map (countTaken mask fun c => !openToCondemn c)).sum))) := by
  rw [applyCondemn, if_neg (by omega), if_neg (by omega)]
  simp only [List.countP_eq_length_filter]

/-- Settles O40: the refusals, and the range with its three counts. -/
theorem condemnRange : Obligations.CondemnRange := by
  unfold Obligations.CondemnRange
  intro p tag first count mask s r hs hp
  refine ⟨fun h => serve_permitted hs hp (if_pos h), fun hlow hhigh h => serve_permitted hs hp ?_,
    fun hlow hhigh hmask hmask' => serve_permitted hs hp ?_⟩
  · rw [applyCondemn, if_neg (by omega), if_pos h]
  · rw [applyCondemn_range hlow hhigh hmask hmask']
    simp only [condemnRow_eq, funext (countTaken_eq mask _), openToCondemn_eq]
    rfl

/-! ### The station table -/

theorem stationOf_bounds {a : StationArg} {e : Station} (h : stationOf a = some e) : a.role.toNat ≤ 7 ∧
    a.offset.toNat ≤ 62 ∧ a.required.toNat ≤ 1 ∧ a.mode.toNat ≤ 1 ∧ a.perms.toNat ≤ 7 := by
  unfold stationOf at h
  split at h
  · next role required mode perms hrole hrequired hmode hperms =>
    split at h
    · next hoffset =>
      have hflag : ¬ 1 < a.required.toNat := by rw [← flagOf_eq_none, hrequired]; simp
      exact ⟨roleOf_bound hrole, hoffset, by omega, modeOf_bound hmode, permsOf_bound hperms⟩
    · cases h
  · cases h

theorem stationOf_eq_some {a : StationArg} {role : Role} {mode : Mode} (hrole : roleOf a.role = some role)
    (hmode : modeOf a.mode = some mode) (hoffset : a.offset.toNat ≤ 62) (hrequired : a.required.toNat ≤ 1)
    (hperms : a.perms.toNat ≤ 7) : stationOf a = some
      ⟨role, a.offset.toNat, max 1 (min 8 a.window.toNat), a.required == 1, mode,
        ⟨a.perms.getLsbD 0, a.perms.getLsbD 1, a.perms.getLsbD 2⟩⟩ := by
  have perms : permsOf a.perms = some ⟨a.perms.getLsbD 0, a.perms.getLsbD 1, a.perms.getLsbD 2⟩ := if_pos (by omega)
  simp only [stationOf, hrole, hmode, flagOf_of_le hrequired, perms, if_pos hoffset, clampTo]

theorem applyStationWrite_badValue {target : Octet} {a : StationArg} {s : State} (hl : s.line = .idle)
    (h : portOf target = none ∨ stationOf a = none) : applyStationWrite target a s = (s, .refusal .badValue 0) := by
  rw [applyStationWrite, if_neg (not_not.2 hl)]
  obtain h | h := h
  · simp only [h]
  · cases portOf target <;> simp only [h]

section
variable {p : Port} {target mode : Octet} {s : State}
  (hp : target.toNat = portNat p ∨ (s.station p).perms.operate = true)
include hp

theorem stationModeSet_permitted : ¬ (target.toNat ≠ portNat p ∧ (s.station p).perms.operate = false) := by
  rintro ⟨hne, hno⟩
  obtain h | h := hp
  · exact hne h
  · rw [h] at hno
    cases hno

theorem applyStationModeSet_badValue (h : portOf target = none ∨ modeOf mode = none) :
    applyStationModeSet p target mode s = (s, .refusal .badValue 0) := by
  rw [applyStationModeSet, if_neg (stationModeSet_permitted hp)]
  obtain h | h := h
  · simp only [h]
  · cases portOf target <;> simp only [h]

theorem applyStationModeSet_sets {q : Port} {m : Mode} (hq : portOf target = some q) (hm : modeOf mode = some m) :
    applyStationModeSet p target mode s
      = (s.setStation q { s.station q with mode := m }, .response (.stationModeSet q m)) := by
  rw [applyStationModeSet, if_neg (stationModeSet_permitted hp), hq, hm]

end

/-- Settles O41: the two applications by their operands, and the codes by the octets they are read from. -/
theorem stationTableWrites : Obligations.StationTableWrites := by
  unfold Obligations.StationTableWrites
  refine ⟨fun s q e => ⟨rfl, fun x => State.station_setStation s q x e⟩,
    fun o => ⟨roleOf_eq_some o, modeOf_eq_some o⟩, fun p tag target mode s hs hp => ?_,
    fun p tag target a s hs hp => ?_⟩
  · have served {s1 : State} {a : Answer} (h : applyStationModeSet p target mode s = (s1, a)) :
        exec (.stationModeSet p tag target mode) s
          = .next (finished ⟨p, tag, .stationModeSet target mode⟩ a s s1) := by
      have := serve_inService hs (applyStationModeSet p target mode)
      rwa [h] at this
    refine ⟨fun h => served (applyStationModeSet_badValue hp (.inl (portOf_eq_none.2 h))),
      fun h => served (applyStationModeSet_badValue hp (.inr (modeOf_eq_none h))), fun q m hq hm => ?_⟩
    have hmode : modeOf mode = some m := by obtain ⟨rfl, rfl⟩ | ⟨rfl, rfl⟩ := hm <;> rfl
    exact served (applyStationModeSet_sets hp (portOf_eq_some.2 hq) hmode)
  · refine ⟨fun h => serve_permitted hs hp (if_pos h), fun hl h => serve_permitted hs hp ?_,
      fun q role mode hl hq hrole hmode hoffset hrequired hperms => serve_permitted hs hp ?_⟩
    · refine applyStationWrite_badValue hl ?_
      obtain h | h := h
      · exact .inl (portOf_eq_none.2 h)
      · refine .inr (Option.eq_none_iff_forall_not_mem.2 fun e he => ?_)
        obtain ⟨h1, h2, h3, h4, h5⟩ := stationOf_bounds he
        omega
    · rw [applyStationWrite, if_neg (not_not.2 hl), portOf_eq_some.2 hq,
        stationOf_eq_some hrole hmode hoffset hrequired hperms]

/-! ### RECIPE_WRITE -/

theorem cavityArgOk_eq_false (a : CavityArg) : cavityArgOk a = false ↔ a.cls.toNat = 0 ∨ 63 < a.cls.toNat ∨
    a.required.toNat = 0 ∨ 15 < a.required.toNat ∨ 1 < a.verify.toNat ∨ 1 < a.orient.toNat := by
  have flag (o : Octet) : (flagOf o).isSome = true ↔ ¬ 1 < o.toNat := by
    rw [← flagOf_eq_none, Option.isSome_iff_ne_none]
  rw [← Bool.not_eq_true]
  simp only [cavityArgOk, Bool.and_eq_true, decide_eq_true_eq, flag]
  omega

theorem someCavityBad_iff (l : List CavityArg) : l.all cavityArgOk = false ↔ ∃ c ∈ l, c.cls.toNat = 0 ∨
    63 < c.cls.toNat ∨ c.required.toNat = 0 ∨ 15 < c.required.toNat ∨ 1 < c.verify.toNat ∨ 1 < c.orient.toNat := by
  simp only [List.all_eq_false, Bool.not_eq_true, cavityArgOk_eq_false]

theorem recipeRefusal_content {a : RecipeArg} (hlow : 1 ≤ a.cavityCount.toNat) (hhigh : a.cavityCount.toNat ≤ 12)
    (hlen : a.cavities.length = a.cavityCount.toNat) : recipeRefusal a =
      if a.laneMask.toNat = 0 ∨ 15 < a.laneMask.toNat ∨ a.dMax.toNat < a.dMin.toNat ∨ flagOf a.valid = none
        ∨ flagOf a.recover = none ∨ a.cavities.all cavityArgOk = false then some .badValue else none := by
  rw [recipeRefusal, if_neg (by omega), if_neg (not_not.2 hlen)]

theorem applyRecipeWrite_used {o : Octet} {id : RecipeId} (hid : o.toNat = id.val) {s : State}
    (h : s.useCount id ≠ 0 ∨ s.selected = some id ∧ s.line = .run) (a : RecipeArg) :
    applyRecipeWrite o a s = (s, .refusal .inUse 0) := by
  simp only [applyRecipeWrite, recipeIdOf_eq_some hid]
  split
  · rfl
  · next hu => rw [if_pos (h.resolve_left hu)]

section
variable {o : Octet} {id : RecipeId} (hid : o.toNat = id.val) {s : State} (hu : s.useCount id = 0)
  (hfree : s.selected ≠ some id ∨ s.line ≠ .run) {a : RecipeArg}
include hid hu hfree

theorem applyRecipeWrite_refusal {code : Code} (h : recipeRefusal a = some code) :
    applyRecipeWrite o a s = (s, .refusal code 0) := by
  simp only [applyRecipeWrite, recipeIdOf_eq_some hid, hu, ne_eq, not_true_eq_false, if_false]
  rw [if_neg (by tauto), h]

theorem applyRecipeWrite_stored (h : recipeRefusal a = none) : applyRecipeWrite o a s
    = (s.setRecipe id (storedRecipe a), .response (.recipeWrite id (storedRecipe a) 0)) := by
  simp only [applyRecipeWrite, recipeIdOf_eq_some hid, hu, ne_eq, not_true_eq_false, if_false]
  rw [if_neg (by tauto), h]

end

/-- Settles O42: the cases of R50 in order. -/
theorem recipeWriteOutcomes : Obligations.RecipeWriteOutcomes := by
  unfold Obligations.RecipeWriteOutcomes
  refine ⟨fun s id r => ⟨rfl, fun j => State.recipe_setRecipe s id j r⟩, fun p tag o a s hs hp => ?_⟩
  refine ⟨fun h => serve_permitted hs hp ?_, fun id hid =>
    ⟨fun h => serve_permitted hs hp (applyRecipeWrite_used hid h a), fun hu hfree =>
      ⟨fun h => serve_permitted hs hp (applyRecipeWrite_refusal hid hu hfree (if_pos h)), fun hlow hhigh =>
        ⟨fun h => serve_permitted hs hp (applyRecipeWrite_refusal hid hu hfree ?_), fun hlen => ?_⟩⟩⟩⟩
  · rw [applyRecipeWrite, recipeIdOf_eq_none h]
  · rw [recipeRefusal, if_neg (by omega), if_pos h]
  · have content := recipeRefusal_content hlow hhigh hlen
    simp only [flagOf_eq_none, someCavityBad_iff] at content
    refine ⟨fun h => serve_permitted hs hp (applyRecipeWrite_refusal hid hu hfree (content.trans (if_pos h))),
      fun h => serve_permitted hs hp ?_⟩
    rw [applyRecipeWrite_stored hid hu hfree (content.trans (if_neg h)), storedRecipe, ← BitVec.ofNat_toNat]
    rfl

/-! ### The settings and RETIRE_READ -/

theorem get_storedArbiter (v : Vector Octet 32) (i : Fin 32) : (storedArbiter v).get i = storedPhase (v.get i) := by
  simp [storedArbiter, Vector.get]
  rfl

theorem portNat_storedPhase (o : Octet) : portNat (storedPhase o) = if o.toNat ≤ 7 then o.toNat else 0 := by
  unfold storedPhase
  split
  · next h =>
    cases hport : portOf o with
    | none => exact absurd (portOf_eq_none.1 hport) (by omega)
    | some q => exact (portOf_eq_some.1 hport).symm
  · next h =>
    rw [portOf_eq_none.2 (by omega)]
    rfl

/-- Settles O43. -/
theorem settingsWritten : Obligations.SettingsWritten := by
  unfold Obligations.SettingsWritten
  intro p tag s hp
  refine ⟨fun v hs => serve_permitted hs hp rfl, fun n h hs => serve_permitted hs hp rfl,
    fun v hs => ⟨storedArbiter v, fun i => ?_, serve_permitted hs hp rfl⟩⟩
  rw [get_storedArbiter, portNat_storedPhase]

/-- The oldest records of a list and the rest, as a count of them takes it. -/
theorem take_drop_of_append {α : Type} {l read left : List α} {n : Nat} (h : l = read ++ left)
    (hlen : read.length = n ∨ read.length < n ∧ left = []) : l.take n = read ∧ l.drop n = left := by
  obtain hlen | ⟨hlen, rfl⟩ := hlen
  · exact ⟨h ▸ List.take_left' hlen, h ▸ List.drop_left' hlen⟩
  · rw [List.append_nil] at h
    subst h
    exact ⟨List.take_of_length_le hlen.le, List.drop_of_length_le hlen.le⟩

/-- Settles O44. -/
theorem retireReadTakesOldest : Obligations.RetireReadTakesOldest := by
  unfold Obligations.RetireReadTakesOldest
  intro p tag n s r hs hp
  refine ⟨fun h1 h2 => serve_permitted hs hp (if_pos ⟨h1, h2⟩),
    fun read left hn htrace hlen => serve_permitted hs hp ?_⟩
  obtain ⟨htake, hdrop⟩ := take_drop_of_append htrace hlen
  rw [applyRetireRead, if_neg (by omega), htake, hdrop]

end Sys2Proof.Machine

/-! ## Queries and the attention commands -/

namespace Sys2Proof.Machine

theorem serve_query {r : Request} {s : State} (hs : InService r s) {answer : State → Answer} {a : Answer}
    (h : answer s = a) : serve r (query answer) s = .next (finished r a s s) := by
  rw [serve_inService hs, query, h]

/-! ### LINE_STATUS -/

/-- On rows at falling offsets, the first is at the highest and the last at the lowest (R20). -/
theorem rowEnds_eq {rows : List Row} {low high : Row} (hlow : low ∈ rows) (hhigh : high ∈ rows)
    (falling : rows.Pairwise fun a b => b.offset < a.offset)
    (between : ∀ x ∈ rows, low.offset ≤ x.offset ∧ x.offset ≤ high.offset) :
    rowEnds rows = some (low.number, high.number) := by
  have first : rows.head? = some high := by
    cases rows with
    | nil => exact absurd hhigh List.not_mem_nil
    | cons x rest =>
      obtain rfl | later := List.mem_cons.1 hhigh
      · rfl
      · have below := List.rel_of_pairwise_cons falling later
        have above := (between x List.mem_cons_self).2
        omega
  have last : rows.getLast? = some low := by
    obtain rfl | ⟨init, z, rfl⟩ := rows.eq_nil_or_concat
    · exact absurd hlow List.not_mem_nil
    · rw [List.concat_eq_append] at *
      obtain earlier | here := List.mem_append.1 hlow
      · have below := (List.pairwise_append.1 falling).2.2 low earlier z List.mem_cons_self
        have above := (between z (by simp)).1
        omega
      · rw [List.mem_singleton.1 here, List.getLast?_concat]
  rw [rowEnds, first, last]

/-! ### CARD_QUERY -/

theorem first_two_of_rising {α : Type} {f : α → Nat} {l : List α} (hl : l.Pairwise fun x y => f x < f y) {a b : α}
    (ha : a ∈ l) (hb : b ∈ l) (hab : f a < f b) (h : ∀ x ∈ l, x = a ∨ f b ≤ f x) : ∃ rest, l = a :: b :: rest := by
  cases l with
  | nil => exact absurd ha List.not_mem_nil
  | cons x l =>
    obtain ⟨hx, hrest⟩ := List.pairwise_cons.1 hl
    have first : x = a := by
      obtain rfl | later := List.mem_cons.1 ha
      · rfl
      · have := hx a later
        exact (h x List.mem_cons_self).resolve_right (by omega)
    subst first
    have hb' : b ∈ l := (List.mem_cons.1 hb).resolve_left fun hbx => by rw [hbx] at hab; omega
    cases l with
    | nil => exact absurd hb' List.not_mem_nil
    | cons y l =>
      have past := hx y List.mem_cons_self
      have second : y = b := by
        obtain rfl | later := List.mem_cons.1 hb'
        · rfl
        · have := List.rel_of_pairwise_cons hrest later
          obtain rfl | bound := h y (by simp)
          · omega
          · omega
      exact ⟨l, by rw [second]⟩

theorem portsWith_rising (s : State) (role : Role) :
    (s.portsWith role).Pairwise fun p q => portNat p < portNat q := ports_rising.sublist List.filter_sublist

theorem sealTallies_eq {s : State} {c : Card} {low high : Option Nat}
    (h : (∀ q, (s.station q).role ≠ .seal) ∧ low = none ∧ high = none ∨
      (∃ a, (s.station a).role = .seal ∧ (∀ q, (s.station q).role = .seal → q = a) ∧
        low = some (c.tallies.get a) ∧ high = none) ∨
      ∃ a b, (s.station a).role = .seal ∧ (s.station b).role = .seal ∧ portNat a < portNat b ∧
        (∀ q, (s.station q).role = .seal → q = a ∨ portNat b ≤ portNat q) ∧
        low = some (c.tallies.get a) ∧ high = some (c.tallies.get b)) : sealTallies s c = (low, high) := by
  obtain ⟨none, rfl, rfl⟩ | ⟨a, ha, only, rfl, rfl⟩ | ⟨a, b, ha, hb, hab, others, rfl, rfl⟩ := h
  · rw [sealTallies, portsWith_eq_nil.2 none]
  · rw [sealTallies, portsWith_eq_singleton.2 ⟨ha, only⟩]
  · obtain ⟨rest, hlist⟩ := first_two_of_rising (portsWith_rising s .seal) (mem_portsWith.2 ha) (mem_portsWith.2 hb) hab
      fun q hq => others q (mem_portsWith.1 hq)
    rw [sealTallies, hlist]

theorem laneIn_eq_some {row : Row} {lane : Octet} {l : Fin 4} (hl : lane.toNat = l.val)
    (h : row.laneMask.getLsbD l.val = true) : laneIn row lane = some l := by
  have named : lane = BitVec.ofNat 8 l.val := by rw [← hl, BitVec.ofNat_toNat, BitVec.setWidth_eq]
  rw [named, laneIn_of_lane h]

theorem cardAnswer_unknownRow {s : State} {n : Word} (h : s.findRow n = none) (lane : Octet) :
    cardAnswer n lane s = .refusal .unknownRow 0 := by
  rw [cardAnswer, h]

theorem cardAnswer_malformed {s : State} {n : Word} {row : Row} (h : s.findRow n = some row) {lane : Octet}
    (hl : laneIn row lane = none) : cardAnswer n lane s = .refusal .malformed 0 := by
  simp only [cardAnswer, h, hl, Option.bind_none]

theorem cardAnswer_card {s : State} {n : Word} {row : Row} (h : s.findRow n = some row) {lane : Octet} {l : Fin 4}
    (hl : laneIn row lane = some l) {c : Card} (hc : row.card l = some c) {low high : Option Nat}
    (ht : sealTallies s c = (low, high)) :
    cardAnswer n lane s = .response (.cardQuery ⟨row.number, row.offset, row.recipe, c, low, high⟩) := by
  simp only [cardAnswer, h, hl, Option.bind_some, hc, cardReport, ht]

/-! ### ROW_QUERY -/

theorem rowAnswer_unknownRow {s : State} {o : Octet} (ho : o.toNat ≤ 63) (h : ∀ row ∈ s.rows, row.offset ≠ o.toNat) :
    rowAnswer o s = .refusal .unknownRow 0 := by
  have none : (s.rows.find? fun r => r.offset = o.toNat) = none := by simpa [List.find?_eq_none] using h
  rw [rowAnswer, if_neg (by omega), none]

theorem rowAnswer_row {s : State} {o : Octet} {row : Row} {older newer : List Row} (ho : o.toNat ≤ 63)
    (hrows : s.rows = older ++ row :: newer) (hrow : row.offset = o.toNat) (h : ∀ x ∈ older, x.offset ≠ o.toNat) :
    rowAnswer o s = .response (.rowQuery row.number row.offset row.recipe row.laneMask row.formed
      (row.cards.map fun c => ⟨c.lane, c.state, c.verdict, c.reason⟩)) := by
  have before : (older.find? fun r => r.offset = o.toNat) = none := by simpa [List.find?_eq_none] using h
  have found : (s.rows.find? fun r => r.offset = o.toNat) = some row := by
    rw [hrows, List.find?_append, before, Option.none_or, List.find?_cons_of_pos (by simpa using hrow)]
  rw [rowAnswer, if_neg (by omega), found]
  rfl

/-- Settles O45: each query's answer from the tables and records as they stand. -/
theorem queriesAnswered : Obligations.QueriesAnswered := by
  unfold Obligations.QueriesAnswered
  intro p tag s answers refuses
  refine ⟨fun ends h hs => serve_query hs ?_, fun o => ⟨fun q hq hs => serve_query hs ?_,
      fun ho hs => serve_query hs ?_, fun ho hne hs => serve_query hs ?_⟩,
    fun o => ⟨fun id hid hs => serve_query hs ?_, fun ho hs => serve_query hs ?_⟩,
    fun n lane => ⟨fun h hs => serve_query hs (cardAnswer_unknownRow h lane), fun row h =>
      ⟨fun hl hs => serve_query hs (cardAnswer_malformed h (laneIn_eq_none hl)), fun l c hl hmask hc low high ht hs =>
        serve_query hs (cardAnswer_card h (laneIn_eq_some hl hmask) hc (sealTallies_eq ht))⟩⟩,
    fun o => ⟨fun ho hs => serve_query hs (if_pos ho), fun ho h hs => serve_query hs (rowAnswer_unknownRow ho h),
      fun row older newer ho hrows hrow h hs => serve_query hs (rowAnswer_row ho hrows hrow h)⟩,
    fun hs => serve_query hs rfl, fun o => ⟨fun q hq hs => serve_query hs ?_, fun ho hs => serve_query hs ?_⟩,
    fun hs => serve_query hs rfl⟩
  · have reported : rowEnds s.rows = ends := by
      obtain ⟨hrows, rfl⟩ | ⟨low, hlow, high, hhigh, falling, between, rfl⟩ := h
      · rw [hrows]
        rfl
      · exact rowEnds_eq hlow hhigh falling between
    rw [lineReport, reported]
  · have small := portNat_lt q
    rw [stationAnswer, if_neg (by omega), portOf_eq_some.2 hq]
    rfl
  · rw [stationAnswer, if_pos (by rw [ho]; rfl)]
    rfl
  · rw [stationAnswer, if_neg (by exact fun h => hne (BitVec.eq_of_toNat_eq h)), portOf_eq_none.2 ho]
  · rw [recipeAnswer, recipeIdOf_eq_some hid]
  · rw [recipeAnswer, recipeIdOf_eq_none ho]
  · rw [countersAnswer, portOf_eq_some.2 hq]
    rfl
  · rw [countersAnswer, portOf_eq_none.2 ho]

/-! ### The state conditions -/

/-- The bits of the three state conditions (section 9.7). -/
theorem conditions_bits (a b c : Bool) :
    let set : CondSet := (if a then 0x001 else 0) ||| (if b then 0x002 else 0) ||| (if c then 0x004 else 0)
    set.getLsbD 0 = a ∧ set.getLsbD 1 = b ∧ set.getLsbD 2 = c ∧ set.toNat < 2 ^ 3 := by
  cases a <;> cases b <;> cases c <;> decide

theorem getLsbD_of_lt_two_pow {w k i : Nat} {x : BitVec w} (hx : x.toNat < 2 ^ k) (hi : k ≤ i) :
    x.getLsbD i = false := by
  rw [← BitVec.testBit_toNat]
  exact Nat.testBit_lt_two_pow (hx.trans_le (Nat.pow_le_pow_right (by decide) hi))

/-! ### The condition sets of the attention commands -/

theorem conditionsOf_eq_none {h : Half} (hh : 4096 ≤ h.toNat) : conditionsOf h = none := if_neg (by omega)

theorem conditionsOf_eq_some {h : Half} {c : CondSet} (hc : h.toNat = c.toNat) : conditionsOf h = some c := by
  have hlt := c.isLt
  rw [conditionsOf, if_pos (by omega)]
  refine congrArg some (BitVec.eq_of_toNat_eq ?_)
  rw [BitVec.toNat_setWidth, hc, Nat.mod_eq_of_lt hlt]

theorem withConditions_badValue {h : Half} (hh : 4096 ≤ h.toNat) (app : CondSet → State → State × Answer) (s : State) :
    withConditions h app s = (s, .refusal .badValue 0) := by
  rw [withConditions, conditionsOf_eq_none hh]

theorem withConditions_of {h : Half} {c : CondSet} (hc : h.toNat = c.toNat) (app : CondSet → State → State × Answer)
    (s : State) : withConditions h app s = app c s := by
  rw [withConditions, conditionsOf_eq_some hc]

theorem masked_onPort (s : State) (p : Port) (f : PortBlock → PortBlock) :
    (s.onPort p f).masked p = (s.conditions ||| (f (s.port p)).latched) &&& (f (s.port p)).enables := by
  simp only [State.masked, State.statusSet, State.port_onPort_same]
  rfl

/-- Settles O46: the condition bits from the definition, and each command from its application. -/
theorem attentionCommands : Obligations.AttentionCommands := by
  unfold Obligations.AttentionCommands
  refine ⟨fun s => ?_, rfl, fun p tag s => ⟨fun hs => serve_query hs rfl, fun h hh => ?_, fun h c hc => ?_⟩⟩
  · obtain ⟨h0, h1, h2, hlt⟩ := conditions_bits s.traceReady s.hold s.fault.isSome
    refine ⟨?_, ?_, ?_, fun i hi => getLsbD_of_lt_two_pow hlt hi, fun p => rfl⟩
    · exact (Bool.eq_iff_iff.1 h0).trans decide_eq_true_iff
    · exact Bool.eq_iff_iff.1 h1
    · exact (Bool.eq_iff_iff.1 h2).trans Option.isSome_iff_ne_none
  · have served {r : Request} (hs : InService r s) (app : CondSet → State → State × Answer) :
        serve r (withConditions h app) s = .next (refused r .badValue 0 s) := by
      rw [serve_inService hs, withConditions_badValue hh]
      rfl
    exact ⟨fun hs => served hs _, fun hs => served hs _, fun hs => served hs _⟩
  · have served {r : Request} (hs : InService r s) {app : CondSet → State → State × Answer} {s1 : State} {a : Answer}
        (happ : app c s = (s1, a)) : serve r (withConditions h app) s = .next (finished r a s s1) := by
      rw [serve_inService hs, withConditions_of hc, happ]
    refine ⟨fun hs => served hs ?_, fun hs => served hs ?_, fun hs => served hs ?_⟩
    · simp only [applyEnableSet, masked_onPort, State.port_onPort_same]
      rfl
    · simp only [applyEnableClear, masked_onPort, State.port_onPort_same]
      rfl
    · simp only [applyAttnClear, masked_onPort, State.statusSet, State.port_onPort_same]
      rfl

end Sys2Proof.Machine

/-! ## The step, permissions, offers, pins and links -/

namespace Sys2Proof.Machine

/-! ### The step and permissions -/

/-- Settles O1: the two branches of `step`. -/
theorem stepRunsFrontCommand : Obligations.StepRunsFrontCommand := by
  unfold Obligations.StepRunsFrontCommand
  refine ⟨fun c rest s => rfl, fun s h => ?_⟩
  rw [step, h]

/-- A command whose kind needs a permission asks for it first (R155). -/
theorem exec_permitted {c : Instr} {r : Request} {has : Perms → Bool} (hc : requestOf c = some r)
    (hp : permissionOf r.body = some has) :
    ∃ app, ∀ s, exec c s = serve r (withPermission has r.port app) s := by
  cases c <;> cases hc <;> cases hp <;> exact ⟨_, fun _ => rfl⟩

/-- Settles O3: `withPermission` for the commands of the table, and the case of STATION_MODE_SET. -/
theorem permissionRefusals : Obligations.PermissionRefusals := by
  unfold Obligations.PermissionRefusals
  refine ⟨fun c r s has hc hs hp hlack => ?_, fun p tag target mode s hs hne hlack => ?_⟩
  · obtain ⟨app, hexec⟩ := exec_permitted hc hp
    rw [hexec, serve_inService hs, withPermission_lacking hlack]
    rfl
  · have forbidden : applyStationModeSet p target mode s = (s, .refusal .forbidden 0) := if_pos ⟨hne, hlack⟩
    have served := serve_inService hs (applyStationModeSet p target mode)
    rwa [forbidden] at served

/-! ### Offers to an outbound queue -/

theorem PortBlock.hasFree_of_lt {b : PortBlock} (h : b.outbound.length + b.reserved < 8) : b.hasFree = true :=
  b.hasFree_iff.2 h

theorem PortBlock.hasFree_of_le {b : PortBlock} (h : 8 ≤ b.outbound.length + b.reserved) : b.hasFree = false := by
  rw [← Bool.not_eq_true, b.hasFree_iff, Config.outboundSize]
  omega

theorem any_isCredit (l : List Message) : l.any isCredit = true ↔ Message.credit ∈ l := by
  have credit (m : Message) : isCredit m = true ↔ m = .credit := by cases m <;> simp [isCredit]
  simp [credit]

theorem any_isAttention (l : List Message) : l.any isAttention = true ↔ Message.attention ∈ l := by
  have attention (m : Message) : isAttention m = true ↔ m = .attention := by cases m <;> simp [isAttention]
  simp [attention]

section
variable (b : PortBlock)

theorem PortBlock.offerCredit_waiting (h : Message.credit ∈ b.waiting) : b.offerCredit = b :=
  if_pos ((any_isCredit _).2 h)

theorem PortBlock.offerCredit_free (hw : Message.credit ∉ b.waiting) (h : b.outbound.length + b.reserved < 8) :
    b.offerCredit = { b with outbound := b.outbound ++ [.credit] } := by
  rw [PortBlock.offerCredit, if_neg (by rwa [any_isCredit]), if_pos (PortBlock.hasFree_of_lt h)]
  rfl

theorem PortBlock.offerAttention_pending (h : b.attnPending = true) : b.offerAttention = b := if_pos (by simp [h])

theorem PortBlock.offerAttention_waiting (h : Message.attention ∈ b.waiting) : b.offerAttention = b :=
  if_pos (by simp [(any_isAttention _).2 h])

theorem PortBlock.offerAttention_new (hp : b.attnPending = false) (hw : Message.attention ∉ b.waiting) :
    b.offerAttention = if b.hasFree then b.place .attention else { b with attnPending := true } :=
  if_neg (by rw [Bool.or_eq_true, any_isAttention, hp]; simpa using hw)

end

theorem PortBlock.offerRefusal_free {b : PortBlock} (h : b.outbound.length + b.reserved < 8) (m : Message) :
    b.offerRefusal m = { b with outbound := b.outbound ++ [m] } := if_pos (PortBlock.hasFree_of_lt h)

theorem PortBlock.offerRefusal_full {b : PortBlock} (h : 8 ≤ b.outbound.length + b.reserved) (m : Message) :
    b.offerRefusal m = { b with refusalLost := b.refusalLost + 1, latched := b.latched ||| 0x200 } :=
  if_neg (by rw [PortBlock.hasFree_of_le h]; exact Bool.false_ne_true)

theorem offerBrief_free {p : Port} {s : State} (h : (s.port p).outbound.length + (s.port p).reserved < 8)
    (brief : Brief) : offerBrief p brief s
      = (true, s.setPort p { s.port p with outbound := (s.port p).outbound ++ [.brief brief] }) :=
  if_pos (PortBlock.hasFree_of_lt h)

theorem offerBrief_full {p : Port} {s : State} (h : 8 ≤ (s.port p).outbound.length + (s.port p).reserved)
    (brief : Brief) : offerBrief p brief s = (false, announce s (s.setPort p { s.port p with
      briefLost := (s.port p).briefLost + 1, latched := (s.port p).latched ||| 0x100 })) :=
  if_neg (by rw [PortBlock.hasFree_of_le h]; exact Bool.false_ne_true)

/-! ### The end of an application -/

theorem placeAnswer_conditions (r : Request) (a : Answer) (s : State) : (placeAnswer r a s).conditions = s.conditions := by
  cases a with
  | nothing => rfl
  | response m => rfl
  | refusal code detail =>
    unfold placeAnswer
    simp only
    split <;> rfl

theorem finished_eq (r : Request) (a : Answer) (s s1 : State) :
    finished r a s s1 = { s1 with engine := none, ports := (finished r a s s1).ports } := by
  cases a with
  | nothing => rfl
  | response m => rfl
  | refusal code detail =>
    unfold finished placeAnswer
    simp only
    split <;> rfl

theorem finished_port (r : Request) (a : Answer) (s s1 : State) (q : Port) {placed : PortBlock}
    (h : (placeAnswer r a { s1 with engine := none }).port q = placed) : (finished r a s s1).port q =
      if s.masked q = 0 ∧ (s1.conditions ||| placed.latched) &&& placed.enables ≠ 0 then placed.offerAttention
      else placed := by
  rw [finished, port_announce, State.masked, State.masked, State.statusSet, State.statusSet, placeAnswer_conditions, h]
  rfl

theorem port_onPort_at (s : State) (p q : Port) (f : PortBlock → PortBlock) :
    (s.onPort p f).port q = if q = p then f (s.port q) else s.port q := by
  rw [State.port_onPort]
  split
  · next h => rw [h]
  · rfl

/-- Settles O4: each offer by its case, and the end of an application port by port. -/
theorem answersAndOffers : Obligations.AnswersAndOffers := by
  unfold Obligations.AnswersAndOffers
  refine ⟨fun b m => ⟨fun h => PortBlock.offerRefusal_free h m, fun h => PortBlock.offerRefusal_full h m⟩,
    fun b => ⟨b.offerCredit_waiting, fun h => PortBlock.offerCredit_full (PortBlock.hasFree_of_le h), b.offerCredit_free,
      b.offerAttention_pending, b.offerAttention_waiting, fun hp hw h => ?_, fun hp hw h => ?_⟩,
    fun p brief s => ⟨fun h => offerBrief_free h brief, fun h => offerBrief_full h brief⟩,
    fun s p b => ⟨rfl, fun q => State.port_setPort s p q b⟩, fun s t => ⟨rfl, fun q => port_announce s t q⟩,
    fun choose e s => ⟨rfl, rfl, fun q => ⟨rfl, port_latchOn choose e s q⟩⟩,
    fun r a s s1 => ⟨finished_eq r a s s1, fun q => finished_port r a s s1 q ?_⟩⟩
  · rw [b.offerAttention_new hp hw, if_pos (PortBlock.hasFree_of_lt h)]
    rfl
  · rw [b.offerAttention_new hp hw, if_neg (by rw [PortBlock.hasFree_of_le h]; exact Bool.false_ne_true)]
  · cases a with
    | nothing => exact (ite_self _).symm
    | response m =>
      rw [placeAnswer, port_onPort_at]
      rfl
    | refusal code detail =>
      simp only [placeAnswer]
      split
      · rw [port_onPort_at]
        rfl
      · rw [port_onPort_at]
        rfl

/-! ### The index pulse and the millisecond -/

theorem unlessHeld_of {s : State} (h : s.resetHeld = false) (f : State → State) : unlessHeld f s = .next (f s) :=
  if_neg (by rw [h]; exact Bool.false_ne_true)

section
variable {s : State} (hr : s.resetHeld = false)
include hr

theorem exec_indexPulse_loading (hl : s.load = .loading) : exec .indexPulse s = .next s := by
  change execIndexPulse s = _
  rw [execIndexPulse, unlessHeld_of hr, if_pos hl]

variable (hl : s.load = .ready)
include hl

theorem exec_indexPulse_accepted (h : ∀ t, s.sinceLast = some t → s.interval ≤ t) :
    exec .indexPulse s = .next (acceptPulse s) := by
  change execIndexPulse s = _
  rw [execIndexPulse, unlessHeld_of hr, if_neg (by rw [hl]; decide)]
  cases hlast : s.sinceLast with
  | none => rfl
  | some t => simp only [if_pos (h t hlast)]

theorem exec_indexPulse_glitch {t : Nat} (ht : s.sinceLast = some t) (h : t < s.interval) :
    exec .indexPulse s = .next (glitchPulse s) := by
  change execIndexPulse s = _
  rw [execIndexPulse, unlessHeld_of hr, if_neg (by rw [hl]; decide)]
  simp only [ht, if_neg (not_le.2 h)]

end

/-- Settles O10: the three outcomes of the filter. -/
theorem indexPulseFilter : Obligations.IndexPulseFilter := by
  unfold Obligations.IndexPulseFilter
  exact fun s hr => ⟨exec_indexPulse_loading hr, exec_indexPulse_accepted hr, fun t hl ht hlt =>
    ⟨exec_indexPulse_glitch hr hl ht hlt, fun q => raise_latched everyPort .indexGlitch _ q⟩⟩

theorem heard_of_up {b : PortBlock} (h : b.link = .up) : heard b = { b with quiet := 0 } := if_pos h

theorem heard_of_down {b : PortBlock} (h : b.link = .down) : heard b = b := if_neg (by rw [h]; decide)

theorem State.setPort_self (s : State) (p : Port) : s.setPort p (s.port p) = s :=
  congrArg (fun ports => { s with ports := ports }) (PerPort.set_get_self s.ports p)

section
variable {s : State} (hr : s.resetHeld = false) (p : Port)
include hr

theorem exec_idleFillReceive : exec (.idleFillReceive p) s = .next (s.setPort p (heard (s.port p))) := by
  change execIdleFillReceive p s = _
  rw [execIdleFillReceive, unlessHeld_of hr, State.onPort]

theorem exec_linkDown : exec (.linkDown p) s =
    .next (if (s.port p).link = .up ∧ Config.linkDownMs ≤ (s.port p).quiet then takeDown p s else s) := by
  change execLinkDown p s = _
  rw [execLinkDown, unlessHeld_of hr]

theorem exec_timeTagTick : exec .timeTagTick s = .next { s.onPorts fun _ b => quietTick b with
    timeTag := s.timeTag + 1
    sinceLast := s.sinceLast.map fun t => min Config.sinceLastStop (t + 1) } := by
  change execTimeTagTick s = _
  rw [execTimeTagTick, unlessHeld_of hr]

end

/-- Settles O11. -/
theorem timersAndLinkDown : Obligations.TimersAndLinkDown := by
  unfold Obligations.TimersAndLinkDown
  refine fun s hr => ⟨exec_timeTagTick hr, fun p => ⟨fun h => ?_, fun h => ?_, fun h hq => ?_, fun h hq => ?_⟩⟩
  · rw [exec_idleFillReceive hr, heard_of_up h]
  · rw [exec_idleFillReceive hr, heard_of_down h, State.setPort_self]
  · rw [exec_linkDown hr, if_pos ⟨h, hq⟩]
    rfl
  · rw [exec_linkDown hr, if_neg fun late => absurd late.2 (not_le.2 hq)]

/-! ### Frames received -/

theorem PerPort.set_set {α : Type} (v : PerPort α) (p : Port) (x y : α) : (v.set p x).set p y = v.set p y := by
  cases p <;> rfl

theorem State.onPort_onPort (s : State) (p : Port) (f g : PortBlock → PortBlock) :
    (s.onPort p f).onPort p g = s.setPort p (g (f (s.port p))) := by
  rw [State.onPort, State.port_onPort_same]
  exact congrArg (fun ports => { s with ports := ports }) (PerPort.set_set s.ports p _ _)

theorem exec_frameReceive_bad {p : Port} {octets : List Octet} {s : State} (hr : s.resetHeld = false) (ho : octets ≠ [])
    (h : readFrame octets = none) : exec (.frameReceive p octets) s = .next (badFrame p s) := by
  change execFrameReceive p octets s = _
  rw [execFrameReceive, unlessHeld_of hr, if_neg ho, h]

theorem exec_frameReceive_good {p : Port} {octets : List Octet} {s : State} (hr : s.resetHeld = false)
    (ho : octets ≠ []) {r : InReq} (h : readFrame octets = some r) :
    exec (.frameReceive p octets) s = .next (receiveRequest p r s) := by
  change execFrameReceive p octets s = _
  rw [execFrameReceive, unlessHeld_of hr, if_neg ho, h]

theorem linkUp_if (b : PortBlock) : linkUp b =
    if b.link = .down then { b with link := .up, quiet := 0 }.offerCredit else { b with quiet := 0 } := by
  unfold linkUp heard
  cases b.link <;> rfl

theorem heard_eq (b : PortBlock) : heard b = { b with quiet := if b.link = .up then 0 else b.quiet } := by
  unfold heard
  split <;> rfl

theorem receiveRequest_room {p : Port} {s : State} (h : (s.port p).inbound.length < 16) (r : InReq) :
    receiveRequest p r s
      = s.setPort p { linkUp (s.port p) with inbound := (linkUp (s.port p)).inbound ++ [r] } := by
  have room : ((s.onPort p linkUp).port p).inbound.length < Config.inboundSize := by
    rw [State.port_onPort_same, linkUp_inbound]
    exact h
  rw [receiveRequest, enqueue, if_pos room, State.onPort_onPort]

theorem receiveRequest_full {p : Port} {s : State} (h : 16 ≤ (s.port p).inbound.length) (r : InReq) :
    receiveRequest p r s = announce (s.setPort p (linkUp (s.port p))) (s.setPort p { linkUp (s.port p) with
      inboundOverruns := (linkUp (s.port p)).inboundOverruns + 1
      latched := (linkUp (s.port p)).latched ||| 0x400 }) := by
  have full : ¬ ((s.onPort p linkUp).port p).inbound.length < Config.inboundSize := by
    rw [State.port_onPort_same, linkUp_inbound]
    exact not_lt.2 h
  rw [receiveRequest, enqueue, if_neg full, State.onPort_onPort]
  rfl

/-- Settles O12. -/
theorem frameReceiveOutcomes : Obligations.FrameReceiveOutcomes := by
  unfold Obligations.FrameReceiveOutcomes
  refine fun p octets s hr ho => ⟨fun h => ?_, fun r h => ?_⟩
  · rw [exec_frameReceive_bad hr ho h, badFrame, State.onPort, heard_eq]
    rfl
  · rw [exec_frameReceive_good hr ho h]
    intro b
    have up : linkUp (s.port p) = b := linkUp_if (s.port p)
    exact ⟨fun room => by rw [receiveRequest_room room, up], fun full => by rw [receiveRequest_full full, up]⟩

/-! ### Frames sent -/

theorem exec_frameSendStart {p : Port} {s : State} (hr : s.resetHeld = false) {m : Message} {rest : List Message}
    (hu : (s.port p).link = .up) (hi : (s.port p).sending = none) (hm : (s.port p).outbound = m :: rest) :
    exec (.frameSendStart p) s = .next (startSending p m s) := by
  change execFrameSendStart p s = _
  rw [execFrameSendStart, unlessHeld_of hr, hm]
  exact congrArg _ (if_pos ⟨hu, hi⟩)

theorem exec_frameSendStart_idle {p : Port} {s : State} (hr : s.resetHeld = false)
    (h : (s.port p).outbound = [] ∨ (s.port p).link = .down ∨ (s.port p).sending.isSome = true) :
    exec (.frameSendStart p) s = .next s := by
  change execFrameSendStart p s = _
  rw [execFrameSendStart, unlessHeld_of hr]
  refine congrArg _ ?_
  cases hm : (s.port p).outbound with
  | nil => rfl
  | cons m rest =>
    refine if_neg fun ⟨hu, hi⟩ => ?_
    simp_all

theorem exec_frameSendComplete {p : Port} {s : State} (hr : s.resetHeld = false) : exec (.frameSendComplete p) s =
    .next (if (s.port p).sending.isSome then s.setPort p (finishSending (s.port p)) else s) := by
  change execFrameSendComplete p s = _
  rw [execFrameSendComplete, unlessHeld_of hr, State.onPort]

/-- Settles O13: the stamp of the frame, and what the last octet's going frees. -/
theorem sendingFrames : Obligations.SendingFrames := by
  unfold Obligations.SendingFrames
  refine fun p s hr => ⟨fun m rest hu hi hm => ?_, fun h => exec_frameSendStart_idle hr (.inl h),
    fun h => exec_frameSendStart_idle hr (.inr (.inl h)), fun h => exec_frameSendStart_idle hr (.inr (.inr h)),
    fun h hn => ?_, fun h hn => ?_, fun h => ?_⟩
  · refine ⟨_, stampFrame s p m, exec_frameSendStart hr hu hi hm, rfl, rfl, rfl, length_settle .., fun i o hio =>
      getElem?_settle hio, fun tag a h => ?_, fun tag kind code detail h => ?_⟩
    · rw [h]
      rfl
    · rw [h]
      rfl
  · rw [exec_frameSendComplete hr, if_pos h, finishSending, if_neg (by rw [hn]; exact Bool.false_ne_true)]
  · rw [exec_frameSendComplete hr, if_pos h, finishSending, if_pos hn]
    rfl
  · rw [exec_frameSendComplete hr, h]
    rfl

/-! ### The arbiter -/

theorem eligible_of_free {b : PortBlock} (h : b.outbound.length + b.reserved < 8) : eligible b = takeOldest b.inbound :=
  if_pos (PortBlock.hasFree_of_lt h)

theorem eligible_of_full {b : PortBlock} (h : 8 ≤ b.outbound.length + b.reserved) : eligible b = takePosted b.inbound :=
  if_neg (by rw [PortBlock.hasFree_of_le h]; exact Bool.false_ne_true)

theorem takePosted_append {l rest : List InReq} {r : InReq} (hl : ∀ x ∈ l, x.body.posted = false)
    (hr : r.body.posted = true) : takePosted (l ++ r :: rest) = some (r, l ++ rest) := by
  induction l with
  | nil => exact if_pos hr
  | cons x l ih =>
    have hx := hl x List.mem_cons_self
    rw [List.cons_append, takePosted, if_neg (by rw [hx]; exact Bool.false_ne_true),
      ih fun y hy => hl y (List.mem_cons_of_mem x hy)]
    rfl

theorem takePosted_none {l : List InReq} (hl : ∀ x ∈ l, x.body.posted = false) : takePosted l = none := by
  induction l with
  | nil => rfl
  | cons x l ih =>
    have hx := hl x List.mem_cons_self
    rw [takePosted, if_neg (by rw [hx]; exact Bool.false_ne_true), ih fun y hy => hl y (List.mem_cons_of_mem x hy)]
    rfl

theorem findSome?_of_first {α β : Type} {f : α → Option β} {l : List α} {k : Nat} {a : α} {b : β} (hk : l[k]? = some a)
    (hb : f a = some b) (h : ∀ j < k, ∀ x, l[j]? = some x → f x = none) : l.findSome? f = some b := by
  induction l generalizing k with
  | nil => simp at hk
  | cons x l ih =>
    cases k with
    | zero =>
      obtain rfl : x = a := by simpa using hk
      rw [List.findSome?_cons, hb]
    | succ k =>
      have hx : f x = none := h 0 (Nat.succ_pos k) x rfl
      rw [List.findSome?_cons, hx]
      exact ih (by simpa using hk) fun j hj y hy => h (j + 1) (Nat.succ_lt_succ hj) y (by simpa using hy)

theorem getElem?_phasesFrom {phase i : Fin 32} {k : Nat} (hk : k < 32) :
    (phasesFrom phase)[k]? = some i ↔ i.val = (phase.val + k) % 32 := by
  simp [phasesFrom, hk, Fin.ext_iff, eq_comm]

theorem grantNext_none {s : State} (h : ∀ i : Fin 32, eligible (s.port (s.arbiter.get i)) = none) : grantNext s = s := by
  have none : grantOf s = none := by
    rw [grantOf, List.findSome?_eq_none_iff]
    exact fun i _ => by rw [h i, Option.map_none]
  rw [grantNext, none, ite_self]

theorem grantNext_first {s : State} {k : Nat} {i : Fin 32} {r : InReq} {rest : List InReq} (he : s.engine = none)
    (hk : k < 32) (hi : i.val = (s.phase.val + k) % 32)
    (hbefore : ∀ j < k, ∀ h : Fin 32, h.val = (s.phase.val + j) % 32 → eligible (s.port (s.arbiter.get h)) = none)
    (hel : eligible (s.port (s.arbiter.get i)) = some (r, rest)) : grantNext s =
      { s.onPort (s.arbiter.get i) (grantedBlock r rest) with
        engine := some ⟨s.arbiter.get i, r.tag, r.body⟩, phase := nextPhase i } := by
  have first : grantOf s = some (i, s.arbiter.get i, r, rest) := by
    refine findSome?_of_first ((getElem?_phasesFrom hk).2 hi) (by rw [hel]; rfl) fun j hj h hh => ?_
    rw [hbefore j hj h ((getElem?_phasesFrom (hj.trans hk)).1 hh), Option.map_none]
  rw [grantNext, if_pos he, first]

theorem grantedBlock_if (r : InReq) (rest : List InReq) (b : PortBlock) : grantedBlock r rest b =
    (let b1 := { b with inbound := rest, reserved := if r.body.posted then b.reserved else b.reserved + 1 }
     if b.outbound = [] ∧ b.credit < 16 - rest.length then b1.offerCredit else b1) := by
  unfold grantedBlock
  cases r.body.posted <;> rfl

theorem exec_arbiterGrant {s : State} (hr : s.resetHeld = false) : exec .arbiterGrant s = .next (grantNext s) :=
  unlessHeld_of hr grantNext

/-- Settles O14: the eligible request of a queue, and the first phase that has one. -/
theorem arbiterGrants : Obligations.ArbiterGrants := by
  unfold Obligations.ArbiterGrants
  refine ⟨fun b => ⟨fun r rest h hq => ?_, fun l r rest h hq hl hr => ?_, fun h hq => ?_, fun h => ?_⟩,
    fun s hr => ⟨fun r he => ?_, fun _ h => ?_, fun k i r rest he hk hi hbefore hel => ?_⟩⟩
  · rw [eligible_of_free h, hq]
    rfl
  · rw [eligible_of_full h, hq, takePosted_append hl hr]
  · rw [eligible_of_full h, takePosted_none hq]
  · rw [eligible, h]
    exact ite_self _
  · rw [exec_arbiterGrant hr, grantNext, if_neg (by rw [he]; exact Option.some_ne_none r)]
  · rw [exec_arbiterGrant hr, grantNext_none h]
  · rw [exec_arbiterGrant hr, grantNext_first he hk hi hbefore hel, State.onPort, grantedBlock_if]
    rfl

end Sys2Proof.Machine

/-! ## Frames: the check, the escape, and the requests read back -/

namespace Sys2Proof.Machine

/-! ### The check, bit by bit -/

/-- One bit of a message taken into the check, most significant bit first (R143). -/
def feedBit (c : Half) (b : Bool) : Half := if c.msb != b then (c <<< 1) ^^^ 0x1021 else c <<< 1

theorem shiftLeft_append_zero (x : Octet) : (x ++ (0 : Octet)) <<< 1 = (x <<< 1 ++ (0 : Octet) : Half) := by
  apply BitVec.eq_of_toNat_eq
  have zero : (0 : Octet).toNat = 0 := rfl
  simp only [BitVec.toNat_shiftLeft, BitVec.toNat_append, Nat.shiftLeft_eq, zero, Nat.or_zero]
  omega

theorem msb_append_zero (x : Octet) : (x ++ (0 : Octet) : Half).msb = x.msb := by
  exact BitVec.msb_append

/-- A bit of the check on a message aligned with its top takes the message's first bit and moves the rest up. -/
theorem crcBit_message (c : Half) (x : Octet) :
    crcBit (c ^^^ (x ++ (0 : Octet))) = feedBit c x.msb ^^^ (x <<< 1 ++ (0 : Octet)) := by
  have msb : (c ^^^ (x ++ (0 : Octet)) : Half).msb = (c.msb != x.msb) := by
    rw [BitVec.msb_xor, msb_append_zero]
  unfold crcBit feedBit
  rw [msb, BitVec.shiftLeft_xor_distrib, shiftLeft_append_zero]
  split
  · ac_rfl
  · rfl

theorem crcOctet_eq (c : Half) (o : Octet) :
    crcOctet c o = (List.range 8).foldl (fun c k => feedBit c (o.getMsbD k)) c := by
  have done : (o <<< 8 ++ (0 : Octet) : Half) = 0 := by rw [BitVec.shiftLeft_eq_zero (le_refl 8)]; rfl
  simp only [crcOctet, crcBit_message, ← BitVec.shiftLeft_add, BitVec.msb_shiftLeft, Nat.reduceAdd, done]
  exact BitVec.xor_zero

theorem crc_append (l : List Octet) (o : Octet) : crc (l ++ [o]) = crcOctet (crc l) o := List.foldl_concat ..

/-! ### Octet order -/

theorem halfOctets_eq (h : Half) : halfOctets h = [octet (h.toNat / 256), octet (h.toNat % 256)] := by
  have low : BitVec.ofNat 8 (h.toNat % 256) = BitVec.ofNat 8 h.toNat := BitVec.eq_of_toNat_eq (by simp)
  simp only [halfOctets, octet, low, BitVec.extractLsb', Nat.shiftRight_eq_div_pow, Nat.pow_zero, Nat.div_one,
    Nat.reducePow]

theorem wordOctets_eq (w : Word) : wordOctets w = [octet (w.toNat / 16777216), octet (w.toNat / 65536 % 256),
    octet (w.toNat / 256 % 256), octet (w.toNat % 256)] := by
  have low (n : Nat) : BitVec.ofNat 8 (n % 256) = BitVec.ofNat 8 n := BitVec.eq_of_toNat_eq (by simp)
  simp only [wordOctets, octet, low, BitVec.extractLsb', Nat.shiftRight_eq_div_pow, Nat.pow_zero, Nat.div_one,
    Nat.reducePow]

theorem half_octets (h : Half) : half (h.extractLsb' 8 8) (h.extractLsb' 0 8) = h :=
  BitVec.extractLsb'_append_extractLsb'

theorem halfOctets_half (a b : Octet) : halfOctets (half a b) = [a, b] := by
  unfold halfOctets half
  rw [BitVec.extractLsb'_append_eq_left, BitVec.extractLsb'_append_eq_right]

theorem word_octets (w : Word) : word (w.extractLsb' 24 8) (w.extractLsb' 16 8) (w.extractLsb' 8 8) (w.extractLsb' 0 8)
    = w := by
  have joined {k : Nat} (i j : Nat) (h : j = i + k) (n : Nat) :
      w.extractLsb' j n ++ w.extractLsb' i k = w.extractLsb' i (n + k) :=
    BitVec.extractLsb'_append_extractLsb'_eq_extractLsb' h
  rw [word, joined 16 24 rfl, joined 8 16 rfl, joined 0 8 rfl]
  exact BitVec.extractLsb'_eq_self

theorem wordOctets_word (a b c d : Octet) : wordOctets (word a b c d) = [a, b, c, d] := by
  have third : (a ++ b ++ c ++ d).extractLsb' 8 8 = c := by
    rw [BitVec.extractLsb'_append_eq_of_le (le_refl 8), Nat.sub_self, BitVec.extractLsb'_append_eq_right]
  have second : (a ++ b ++ c ++ d).extractLsb' 16 8 = b := by
    rw [BitVec.extractLsb'_append_eq_of_le (by decide), BitVec.extractLsb'_append_eq_of_le (by decide),
      BitVec.extractLsb'_append_eq_right]
  have first : (a ++ b ++ c ++ d).extractLsb' 24 8 = a := by
    rw [BitVec.extractLsb'_append_eq_of_le (by decide), BitVec.extractLsb'_append_eq_of_le (by decide),
      BitVec.extractLsb'_append_eq_left]
  rw [wordOctets, word, first, second, third, BitVec.extractLsb'_append_eq_right]

/-! ### The escape -/

theorem escape_cons (o : Octet) (l : List Octet) : escape (o :: l)
    = (if o = 0xC5 then [0xCA, 0xE5] else if o = 0xCA then [0xCA, 0xEA] else [o]) ++ escape l := by
  by_cases hflag : o = 0xC5
  · subst hflag
    rfl
  · by_cases hescape : o = 0xCA
    · subst hescape
      rfl
    · rw [if_neg hflag, if_neg hescape, escape, if_neg (by exact not_or.2 ⟨hflag, hescape⟩)]
      rfl

/-- The three ways an octet is escaped. -/
theorem escape_cons_cases (o : Octet) (l : List Octet) :
    o = 0xC5 ∧ escape (o :: l) = 0xCA :: 0xE5 :: escape l ∨ o = 0xCA ∧ escape (o :: l) = 0xCA :: 0xEA :: escape l ∨
      (o ≠ 0xC5 ∧ o ≠ 0xCA) ∧ escape (o :: l) = o :: escape l := by
  rw [escape_cons]
  by_cases hflag : o = 0xC5
  · exact .inl ⟨hflag, by rw [if_pos hflag]; rfl⟩
  · by_cases hescape : o = 0xCA
    · exact .inr (.inl ⟨hescape, by rw [if_neg hflag, if_pos hescape]; rfl⟩)
    · exact .inr (.inr ⟨⟨hflag, hescape⟩, by rw [if_neg hflag, if_neg hescape]; rfl⟩)

theorem flag_not_mem_escape (l : List Octet) : ∀ o ∈ escape l, o ≠ 0xC5 := by
  induction l with
  | nil => exact fun o h => absurd h List.not_mem_nil
  | cons x l ih =>
    obtain ⟨-, h⟩ | ⟨-, h⟩ | ⟨⟨hx, -⟩, h⟩ := escape_cons_cases x l
    · rw [h]
      simpa using ih
    · rw [h]
      simpa using ih
    · rw [h]
      exact List.forall_mem_cons.2 ⟨hx, ih⟩

theorem unescape_flagged (l : List Octet) : unescape (0xCA :: 0xE5 :: l) = (unescape l).map (0xC5 :: ·) := rfl

theorem unescape_escaped (l : List Octet) : unescape (0xCA :: 0xEA :: l) = (unescape l).map (0xCA :: ·) := rfl

theorem unescape_plain {o : Octet} (hflag : o ≠ 0xC5) (hescape : o ≠ 0xCA) (l : List Octet) :
    unescape (o :: l) = (unescape l).map (o :: ·) := by
  conv_lhs => unfold unescape
  rw [if_neg (by exact hescape), if_neg (by exact hflag)]

theorem unescape_escape (l : List Octet) : unescape (escape l) = some l := by
  induction l with
  | nil => rfl
  | cons o l ih =>
    obtain ⟨rfl, h⟩ | ⟨rfl, h⟩ | ⟨⟨hflag, hescape⟩, h⟩ := escape_cons_cases o l
    · rw [h, unescape_flagged, ih, Option.map_some]
    · rw [h, unescape_escaped, ih, Option.map_some]
    · rw [h, unescape_plain hflag hescape, ih, Option.map_some]

theorem unescape_bad {e : Octet} (h : ¬ (e = 0xE5 ∨ e = 0xEA)) (l : List Octet) : unescape (0xCA :: e :: l) = none := by
  conv_lhs => unfold unescape
  exact if_neg h

theorem unescape_flag (l : List Octet) : unescape (0xC5 :: l) = none := by
  conv_lhs => unfold unescape
  rw [if_neg (by decide), if_pos (by rfl)]

/-- Only escaped octets are read back. -/
theorem eq_escape_of_unescape {w l : List Octet} (h : unescape w = some l) : w = escape l := by
  induction w using unescape.induct generalizing l with
  | case1 =>
    cases h
    rfl
  | case2 => cases h
  | case3 e rest he ih =>
    obtain rfl | rfl := he
    · obtain ⟨l', hl', rfl⟩ := Option.map_eq_some_iff.1 ((unescape_flagged rest).symm.trans h)
      rw [ih hl']
      rfl
    · obtain ⟨l', hl', rfl⟩ := Option.map_eq_some_iff.1 ((unescape_escaped rest).symm.trans h)
      rw [ih hl']
      rfl
  | case4 e rest he => cases (unescape_bad he rest).symm.trans h
  | case5 rest _ => cases (unescape_flag rest).symm.trans h
  | case6 o rest hescape hflag ih =>
    rw [unescape_plain hflag hescape] at h
    obtain ⟨l', hl', rfl⟩ := Option.map_eq_some_iff.1 h
    rw [escape_cons, if_neg (by exact hflag), if_neg (by exact hescape), ih hl']
    rfl

/-- In escaped octets an escape octet has E5h or EAh behind it. -/
theorem escape_pairs {p l m : List Octet} (h : escape p = l ++ 0xCA :: m) :
    ∃ e rest, m = e :: rest ∧ (e = 0xE5 ∨ e = 0xEA) := by
  have step {e : Octet} {p l : List Octet} (he : e = 0xE5 ∨ e = 0xEA)
      (ih : ∀ {l}, escape p = l ++ 0xCA :: m → ∃ e rest, m = e :: rest ∧ (e = 0xE5 ∨ e = 0xEA))
      (h : 0xCA :: e :: escape p = l ++ 0xCA :: m) : ∃ e rest, m = e :: rest ∧ (e = 0xE5 ∨ e = 0xEA) := by
    match l with
    | [] => exact ⟨e, escape p, (List.cons.inj h).2.symm, he⟩
    | [x] =>
      have second : e = 0xCA := (List.cons.inj (List.cons.inj h).2).1
      rw [second] at he
      exact absurd he (by decide)
    | x :: y :: l => exact ih (List.cons.inj (List.cons.inj h).2).2
  induction p generalizing l with
  | nil => cases l <;> cases h
  | cons o p ih =>
    obtain ⟨-, ho⟩ | ⟨-, ho⟩ | ⟨⟨-, hescape⟩, ho⟩ := escape_cons_cases o p
    · exact step (.inl rfl) ih (ho.symm.trans h)
    · exact step (.inr rfl) ih (ho.symm.trans h)
    · rw [ho] at h
      cases l with
      | nil => exact absurd (List.cons.inj h).1 hescape
      | cons x l => exact ih (List.cons.inj h).2

end Sys2Proof.Machine

/-! ## Request bodies written and read back -/

namespace Sys2Proof.Machine

/-! ### The lists of a body -/

theorem readPairs_octets (l : List PlacePair) : readPairs (l.flatMap fun e => [e.cavity, e.count]) = some l := by
  induction l with
  | nil => rfl
  | cons e l ih => simp only [List.flatMap_cons, List.cons_append, List.nil_append, readPairs, ih, Option.map_some]

theorem readEntries_octets (l : List InspectEntry) :
    readEntries (l.flatMap fun e => [e.cavity, e.classSeen, e.count, e.orientation]) = some l := by
  induction l with
  | nil => rfl
  | cons e l ih => simp only [List.flatMap_cons, List.cons_append, List.nil_append, readEntries, ih, Option.map_some]

theorem readCavities_octets (l : List CavityArg) :
    readCavities (l.flatMap fun c => [c.cls, c.required, c.overTol, c.feeder, c.verify, c.orient]) = some l := by
  induction l with
  | nil => rfl
  | cons e l ih => simp only [List.flatMap_cons, List.cons_append, List.nil_append, readCavities, ih, Option.map_some]

theorem octets_of_readPairs {w : List Octet} {l : List PlacePair} (h : readPairs w = some l) :
    (l.flatMap fun e => [e.cavity, e.count]) = w := by
  induction w using readPairs.induct generalizing l with
  | case1 => cases h; rfl
  | case2 => cases h
  | case3 a b w ih =>
    obtain ⟨l', hl', rfl⟩ := Option.map_eq_some_iff.1 h
    rw [List.flatMap_cons, ih hl']
    rfl

theorem octets_of_readEntries {w : List Octet} {l : List InspectEntry} (h : readEntries w = some l) :
    (l.flatMap fun e => [e.cavity, e.classSeen, e.count, e.orientation]) = w := by
  induction w using readEntries.induct generalizing l with
  | case1 => cases h; rfl
  | case2 a b c d w ih =>
    obtain ⟨l', hl', rfl⟩ := Option.map_eq_some_iff.1 h
    rw [List.flatMap_cons, ih hl']
    rfl
  | case3 w h1 h2 => rw [readEntries] at h <;> simp_all

theorem octets_of_readCavities {w : List Octet} {l : List CavityArg} (h : readCavities w = some l) :
    (l.flatMap fun c => [c.cls, c.required, c.overTol, c.feeder, c.verify, c.orient]) = w := by
  induction w using readCavities.induct generalizing l with
  | case1 => cases h; rfl
  | case2 a b c d e f w ih =>
    obtain ⟨l', hl', rfl⟩ := Option.map_eq_some_iff.1 h
    rw [List.flatMap_cons, ih hl']
    rfl
  | case3 w h1 h2 => rw [readCavities] at h <;> simp_all

/-- A count octet carries a length below 256. -/
theorem toNat_octet {n : Nat} (h : n < 256) : (octet n).toNat = n := by
  rw [octet, BitVec.toNat_ofNat, Nat.mod_eq_of_lt h]

theorem octet_toNat (o : Octet) : octet o.toNat = o := BitVec.eq_of_toNat_eq (toNat_octet o.isLt)

theorem counted_octet {α : Type} {l : List α} (h : l.length < 256) : counted (octet l.length) (some l) = some l := by
  rw [counted, Option.bind_some, if_pos (toNat_octet h).symm]

theorem counted_eq_some {α : Type} {k : Octet} {items : Option (List α)} {l : List α} (h : counted k items = some l) :
    items = some l ∧ octet l.length = k := by
  obtain ⟨m, hm, hk⟩ := Option.bind_eq_some_iff.1 h
  split at hk
  · next hlen =>
    cases hk
    exact ⟨hm, by rw [hlen, octet_toNat]⟩
  · cases hk

/-! ### The recipe argument -/

theorem recipeArgOctets_eq (r : RecipeArg) : recipeArgOctets r =
    r.valid :: r.customer.extractLsb' 8 8 :: r.customer.extractLsb' 0 8 :: r.laneMask :: r.cavityCount :: r.recover ::
      r.refillLimit :: r.tAct.extractLsb' 8 8 :: r.tAct.extractLsb' 0 8 :: r.dMin.extractLsb' 8 8 ::
      r.dMin.extractLsb' 0 8 :: r.dMax.extractLsb' 8 8 :: r.dMax.extractLsb' 0 8 :: r.pMin.extractLsb' 8 8 ::
      r.pMin.extractLsb' 0 8 :: octet r.cavities.length ::
      r.cavities.flatMap fun c => [c.cls, c.required, c.overTol, c.feeder, c.verify, c.orient] := rfl

theorem readRecipe_octets {r : RecipeArg} (h : r.cavities.length < 256) : readRecipe (recipeArgOctets r) = some r := by
  simp only [recipeArgOctets_eq, readRecipe, readCavities_octets, counted_octet h, Option.map_some, half_octets]

theorem octets_of_readRecipe {w : List Octet} {r : RecipeArg} (h : readRecipe w = some r) : recipeArgOctets r = w := by
  unfold readRecipe at h
  split at h
  · obtain ⟨l, hl, rfl⟩ := Option.map_eq_some_iff.1 h
    obtain ⟨hread, rfl⟩ := counted_eq_some hl
    simp only [recipeArgOctets, halfOctets_half, octets_of_readCavities hread]
    rfl
  · cases h

theorem readPhases_toList (v : Vector Octet 32) : readPhases v.toList = some v := by
  have size : v.toList.length = 32 := Vector.length_toList
  rw [readPhases, dif_pos size]
  rfl

theorem toList_of_readPhases {w : List Octet} {v : Vector Octet 32} (h : readPhases w = some v) : v.toList = w := by
  unfold readPhases at h
  split at h
  · cases h
    rfl
  · cases h

/-! ### The body under its kind -/

theorem posted_iff_kind (b : ReqBody) : b.posted = true ↔ (bodyKind b).toNat ≤ 5 := by
  cases b <;> simp [ReqBody.posted, bodyKind]

theorem length_wordOctets (w : Word) : (wordOctets w).length = 4 := rfl

theorem length_halfOctets (h : Half) : (halfOctets h).length = 2 := rfl

theorem length_flatMap_const {α : Type} {f : α → List Octet} {k : Nat} (hf : ∀ x, (f x).length = k) (l : List α) :
    (l.flatMap f).length = k * l.length := by
  induction l with
  | nil => rfl
  | cons x l ih => rw [List.flatMap_cons, List.length_append, hf, ih, List.length_cons, Nat.mul_succ, Nat.add_comm]

theorem length_pairs (l : List PlacePair) : (l.flatMap fun e => [e.cavity, e.count]).length = 2 * l.length :=
  length_flatMap_const (k := 2) (fun _ => (by rfl)) l

theorem length_entries (l : List InspectEntry) :
    (l.flatMap fun e => [e.cavity, e.classSeen, e.count, e.orientation]).length = 4 * l.length :=
  length_flatMap_const (k := 4) (fun _ => (by rfl)) l

theorem length_recipeArgOctets (r : RecipeArg) : (recipeArgOctets r).length = 16 + 6 * r.cavities.length := by
  have cavities := length_flatMap_const (k := 6) (f := fun c : CavityArg =>
    [c.cls, c.required, c.overTol, c.feeder, c.verify, c.orient]) (fun _ => rfl) r.cavities
  rw [recipeArgOctets, List.length_append, cavities]
  rfl

/-- A request fits a frame when its octets are at most 128. -/
theorem wellFormed_iff (b : ReqBody) : b.wellFormed = true ↔ (bodyOctets b).length ≤ 128 := by
  cases b with
  | formResult row lane splice outcomes =>
    rw [bodyOctets, List.length_append]
    exact decide_eq_true_iff
  | placement row lane pairs =>
    rw [bodyOctets, List.length_append, length_pairs]
    exact decide_eq_true_iff
  | inspection row lane entries =>
    rw [bodyOctets, List.length_append, length_entries]
    exact decide_eq_true_iff
  | recipeWrite id recipe =>
    rw [bodyOctets, List.length_cons, length_recipeArgOctets, Nat.add_right_comm]
    exact decide_eq_true_iff
  | arbiterWrite phases =>
    rw [bodyOctets, Vector.length_toList]
    exact iff_of_true rfl (by decide)
  | _ => exact iff_of_true rfl (by simp [bodyOctets, length_wordOctets, length_halfOctets])

theorem readBody_octets {b : ReqBody} (h : b.wellFormed = true) : readBody (bodyKind b) (bodyOctets b) = some b := by
  cases b with
  | formResult row lane splice outcomes =>
    have short : outcomes.length < 256 := by have := of_decide_eq_true h; simp only [Config.maxPayload] at this; omega
    change (counted (octet outcomes.length) (some outcomes)).map (ReqBody.formResult (word _ _ _ _) lane splice) = _
    rw [counted_octet short, word_octets, Option.map_some]
  | placement row lane pairs =>
    have short : pairs.length < 256 := by have := of_decide_eq_true h; simp only [Config.maxPayload] at this; omega
    change (counted (octet pairs.length) (readPairs (pairs.flatMap fun e => [e.cavity, e.count]))).map
      (ReqBody.placement (word _ _ _ _) lane) = _
    rw [readPairs_octets, counted_octet short, word_octets, Option.map_some]
  | inspection row lane entries =>
    have short : entries.length < 256 := by have := of_decide_eq_true h; simp only [Config.maxPayload] at this; omega
    change (counted (octet entries.length)
      (readEntries (entries.flatMap fun e => [e.cavity, e.classSeen, e.count, e.orientation]))).map
      (ReqBody.inspection (word _ _ _ _) lane) = _
    rw [readEntries_octets, counted_octet short, word_octets, Option.map_some]
  | recipeWrite id recipe =>
    have short : recipe.cavities.length < 256 := by
      have := of_decide_eq_true h; simp only [Config.maxPayload] at this; omega
    change (readRecipe (recipeArgOctets recipe)).map (ReqBody.recipeWrite id) = _
    rw [readRecipe_octets short, Option.map_some]
  | arbiterWrite phases =>
    change (readPhases phases.toList).map ReqBody.arbiterWrite = _
    rw [readPhases_toList, Option.map_some]
  | sealHit row lane sealed t w p =>
    change some (ReqBody.sealHit (word _ _ _ _) lane sealed (half _ _) (half _ _) (half _ _)) = _
    rw [word_octets, half_octets, half_octets, half_octets]
  | discharge row lane outcome =>
    change some (ReqBody.discharge (word _ _ _ _) lane outcome) = _
    rw [word_octets]
  | condemn row n m =>
    change some (ReqBody.condemn (word _ _ _ _) n m) = _
    rw [word_octets]
  | cardQuery row lane =>
    change some (ReqBody.cardQuery (word _ _ _ _) lane) = _
    rw [word_octets]
  | indexIntervalSet v =>
    change some (ReqBody.indexIntervalSet (half _ _)) = _
    rw [half_octets]
  | traceLevelsSet n h =>
    change some (ReqBody.traceLevelsSet (half _ _) (half _ _)) = _
    rw [half_octets, half_octets]
  | attnEnableSet c =>
    change some (ReqBody.attnEnableSet (half _ _)) = _
    rw [half_octets]
  | attnEnableClear c =>
    change some (ReqBody.attnEnableClear (half _ _)) = _
    rw [half_octets]
  | attnClear c =>
    change some (ReqBody.attnClear (half _ _)) = _
    rw [half_octets]
  | _ => rfl

theorem kind_eq {kind : Octet} {n : Nat} (h : kind.toNat = n) : BitVec.ofNat 8 n = kind := by
  rw [← h, BitVec.ofNat_toNat, BitVec.setWidth_eq]

/-- A body read was written under that kind, in those octets. -/
theorem octets_of_readBody {kind : Octet} {payload : List Octet} {b : ReqBody} (h : readBody kind payload = some b) :
    bodyKind b = kind ∧ bodyOctets b = payload := by
  unfold readBody at h
  split at h
  case h_1 hk =>
    split at h
    · obtain ⟨l, hl, rfl⟩ := Option.map_eq_some_iff.1 h
      obtain ⟨hread, rfl⟩ := counted_eq_some hl
      cases hread
      exact ⟨kind_eq hk, by simp only [bodyOctets, wordOctets_word, List.cons_append, List.nil_append]⟩
    · cases h
  case h_2 hk =>
    split at h
    · obtain ⟨l, hl, rfl⟩ := Option.map_eq_some_iff.1 h
      obtain ⟨hread, rfl⟩ := counted_eq_some hl
      refine ⟨kind_eq hk, ?_⟩
      simp only [bodyOctets, wordOctets_word, octets_of_readPairs hread, List.cons_append, List.nil_append]
    · cases h
  case h_3 hk =>
    split at h
    · obtain ⟨l, hl, rfl⟩ := Option.map_eq_some_iff.1 h
      obtain ⟨hread, rfl⟩ := counted_eq_some hl
      refine ⟨kind_eq hk, ?_⟩
      simp only [bodyOctets, wordOctets_word, octets_of_readEntries hread, List.cons_append, List.nil_append]
    · cases h
  case h_13 hk =>
    split at h
    · obtain ⟨e, he, rfl⟩ := Option.map_eq_some_iff.1 h
      unfold readStation at he
      split at he <;> cases he
      exact ⟨kind_eq hk, rfl⟩
    · cases h
  case h_14 hk =>
    split at h
    · obtain ⟨r, hr, rfl⟩ := Option.map_eq_some_iff.1 h
      exact ⟨kind_eq hk, by rw [bodyOctets, octets_of_readRecipe hr]⟩
    · cases h
  case h_17 hk =>
    obtain ⟨v, hv, rfl⟩ := Option.map_eq_some_iff.1 h
    exact ⟨kind_eq hk, toList_of_readPhases hv⟩
  case h_6 hk | h_7 hk | h_9 hk | h_11 hk | h_19 hk | h_24 hk | h_26 hk | h_27 hk =>
    split at h <;> cases h
    next hempty => exact ⟨kind_eq hk, hempty.symm⟩
  case h_31 => cases h
  all_goals
    next hk =>
      split at h <;> cases h
      exact ⟨kind_eq hk, by simp only [bodyOctets, wordOctets_word, halfOctets_half, List.cons_append, List.nil_append]⟩

theorem readBody_unnamed {kind : Octet}
    (h : kind.toNat = 0 ∨ 0x05 < kind.toNat ∧ kind.toNat < 0x10 ∨ 0x28 < kind.toNat) (payload : List Octet) :
    readBody kind payload = none := by
  unfold readBody
  split
  case h_31 => rfl
  all_goals omega

end Sys2Proof.Machine

/-! ## Request frames read back, and nothing else -/

namespace Sys2Proof.Machine

/-! ### A frame by its header -/

theorem readFrame_header (kind tag credit len : Octet) (rest : List Octet) :
    readFrame (escape (kind :: tag :: credit :: len :: rest)) =
      if len.toNat ≤ Config.maxPayload ∧ rest.length = len.toNat + 2 then
        if rest.drop len.toNat = halfOctets (crc ([kind, tag, credit, len] ++ rest.take len.toNat)) then
          (readBody kind (rest.take len.toNat)).map (⟨tag, ·⟩)
        else none
      else none := by
  rw [readFrame, unescape_escape]

theorem readFrame_of_unescape_none {octets : List Octet} (h : unescape octets = none) : readFrame octets = none := by
  rw [readFrame, h]

theorem readFrame_short {plain : List Octet} (h : plain.length < 6) : readFrame (escape plain) = none := by
  match plain with
  | [] | [_] | [_, _] | [_, _, _] => rw [readFrame, unescape_escape]
  | kind :: tag :: credit :: len :: rest =>
    rw [readFrame_header, if_neg]
    simp only [List.length_cons] at h
    omega

theorem plainFrame_eq (kind tag credit : Octet) (payload : List Octet) : plainFrame kind tag credit payload =
    kind :: tag :: credit :: octet payload.length ::
      (payload ++ halfOctets (crc ([kind, tag, credit, octet payload.length] ++ payload))) := rfl

theorem halfOctets_injective {a b : Half} (h : halfOctets a = halfOctets b) : a = b := by
  rw [← half_octets a, ← half_octets b, (List.cons.inj h).1, (List.cons.inj (List.cons.inj h).2).1]

theorem readFrame_requestFrame (r : InReq) (credit : Octet) (h : r.body.wellFormed = true) :
    readFrame (requestFrame r credit) = some r := by
  have short : (bodyOctets r.body).length ≤ Config.maxPayload := (wellFormed_iff r.body).1 h
  have len : (octet (bodyOctets r.body).length).toNat = (bodyOctets r.body).length :=
    toNat_octet (lt_of_le_of_lt short (by decide))
  rw [requestFrame, wireFrame, plainFrame_eq, readFrame_header, len, List.take_left, List.drop_left,
    if_pos ⟨short, by rw [List.length_append, length_halfOctets]⟩, if_pos rfl, readBody_octets h, Option.map_some]

/-- Only the frame of a request is read as one (R143). -/
theorem eq_requestFrame_of_readFrame {octets : List Octet} {r : InReq} (h : readFrame octets = some r) :
    r.body.wellFormed = true ∧ ∃ credit, octets = requestFrame r credit := by
  cases hplain : unescape octets with
  | none => rw [readFrame_of_unescape_none hplain] at h; cases h
  | some plain =>
    obtain rfl := eq_escape_of_unescape hplain
    match plain with
    | [] | [_] | [_, _] | [_, _, _] => rw [readFrame_short (by simp)] at h; cases h
    | kind :: tag :: credit :: len :: rest =>
      rw [readFrame_header] at h
      split at h
      · next hlen =>
        split at h
        · next hcheck =>
          obtain ⟨hmax, hlen⟩ := hlen
          obtain ⟨b, hb, rfl⟩ := Option.map_eq_some_iff.1 h
          obtain ⟨hkind, hpayload⟩ := octets_of_readBody hb
          have length : (rest.take len.toNat).length = len.toNat := by rw [List.length_take]; omega
          refine ⟨(wellFormed_iff b).2 (by rw [hpayload, length]; exact hmax), credit, ?_⟩
          rw [requestFrame, wireFrame, plainFrame_eq, hkind, hpayload, length, octet_toNat, ← hcheck,
            List.take_append_drop]
        · cases h
      · cases h

/-! ### Bad frames -/

theorem readFrame_bad_escape (l m : List Octet) {e : Octet} (h1 : e ≠ 0xE5) (h2 : e ≠ 0xEA) :
    readFrame (l ++ 0xCA :: e :: m) = none := by
  refine readFrame_of_unescape_none (Option.eq_none_iff_forall_not_mem.2 fun plain hplain => ?_)
  obtain ⟨e', rest, hm, he⟩ := escape_pairs (eq_escape_of_unescape hplain).symm
  obtain rfl := (List.cons.inj hm).1
  exact he.elim h1 h2

theorem readFrame_escape_last (l : List Octet) : readFrame (l ++ [0xCA]) = none := by
  refine readFrame_of_unescape_none (Option.eq_none_iff_forall_not_mem.2 fun plain hplain => ?_)
  obtain ⟨e, rest, hm, -⟩ := escape_pairs (eq_escape_of_unescape hplain).symm
  cases hm

section
variable (kind tag credit len : Octet) (rest : List Octet)

theorem readFrame_bad_length (h : 6 + len.toNat ≠ rest.length + 4) :
    readFrame (escape (kind :: tag :: credit :: len :: rest)) = none := by
  rw [readFrame_header, if_neg (by omega)]

theorem readFrame_long (h : 128 < len.toNat) : readFrame (escape (kind :: tag :: credit :: len :: rest)) = none := by
  rw [readFrame_header, if_neg fun hmax => absurd hmax.1 (not_le.2 h)]

theorem readFrame_bad_kind (h : kind.toNat = 0 ∨ 0x05 < kind.toNat ∧ kind.toNat < 0x10 ∨ 0x28 < kind.toNat) :
    readFrame (escape (kind :: tag :: credit :: len :: rest)) = none := by
  rw [readFrame_header, readBody_unnamed h, Option.map_none, ite_self, ite_self]

theorem readFrame_bad_check {payload : List Octet} {check : Half}
    (h : check ≠ crc (kind :: tag :: credit :: len :: payload)) :
    readFrame (escape (kind :: tag :: credit :: len :: (payload ++ halfOctets check))) = none := by
  rw [readFrame_header]
  split
  · next hlen =>
    have length : payload.length = len.toNat := by
      have := hlen.2
      rw [List.length_append, length_halfOctets] at this
      omega
    rw [List.take_left' length, List.drop_left' length, if_neg (by exact fun same => h (halfOctets_injective same))]
  · rfl

end

/-- Settles O47: the check by its bits, the escape and the bodies by their round trips, and a bad frame by what fails. -/
theorem requestFramesReadBack : Obligations.RequestFramesReadBack := by
  unfold Obligations.RequestFramesReadBack
  refine ⟨⟨rfl, by decide +kernel, fun l o => (crc_append l o).trans (crcOctet_eq _ o)⟩, halfOctets_eq, wordOctets_eq,
    ⟨rfl, escape_cons⟩, fun r credit => rfl, ?_, fun r credit h => ⟨readFrame_requestFrame r credit h, flag_not_mem_escape _⟩,
    fun octets r h => eq_requestFrame_of_readFrame h, fun l m e h1 h2 => readFrame_bad_escape l m h1 h2,
    readFrame_escape_last, fun plain => ⟨unescape_escape plain, readFrame_short⟩, fun kind tag credit len rest =>
      ⟨readFrame_bad_length kind tag credit len rest, readFrame_long kind tag credit len rest,
        readFrame_bad_kind kind tag credit len rest, ?_⟩, fun f => ⟨unescape_escape _, fun _ => ⟨_, _, rfl, rfl, rfl⟩⟩⟩
  · intro spells
    have spelled (b : ReqBody) : spells b (bodyKind b) (bodyOctets b) := ⟨rfl, rfl, posted_iff_kind b⟩
    exact ⟨fun _ _ _ _ => spelled _, fun _ _ _ => spelled _, fun _ _ _ => spelled _, fun _ _ _ _ _ _ => spelled _,
      fun _ _ _ => spelled _, spelled _, spelled _, fun _ => spelled _, spelled _, fun _ _ _ => spelled _, spelled _,
      fun _ _ => spelled _, fun _ _ => spelled _, fun _ _ => spelled _, fun _ => rfl, fun _ => spelled _,
      fun _ _ => spelled _, fun _ => spelled _, fun _ => spelled _, spelled _, fun _ => spelled _, fun _ => spelled _,
      fun _ _ => spelled _, fun _ => spelled _, spelled _, fun _ => spelled _, spelled _, spelled _, fun _ => spelled _,
      fun _ => spelled _, fun _ => spelled _⟩
  · rintro payload check rfl h
    exact readFrame_bad_check kind tag credit len h

end Sys2Proof.Machine

/-! ## Master reset and the autoload unit -/

namespace Sys2Proof.Machine

/-! ### Master reset -/

theorem useCount_reset (id : RecipeId) : State.reset.useCount id = 0 := Vector.getElem_replicate _

theorem arbiter_default : ∀ i : Fin 32, portNat (defaultArbiter.get i) = i.val % 8 := by decide

/-- Settles O5: the reset state, field by field. -/
theorem masterResetValues : Obligations.MasterResetValues := by
  unfold Obligations.MasterResetValues
  refine fun s => ⟨_, rfl, ⟨rfl, rfl, rfl, rfl⟩, ⟨rfl, rfl, rfl, rfl, rfl, rfl, rfl, rfl, rfl⟩,
    ⟨rfl, rfl, rfl, rfl, rfl, rfl, rfl⟩, fun p => ?_, fun id => ⟨recipe_default id, useCount_reset id⟩,
    ⟨rfl, rfl, rfl, rfl, rfl, rfl⟩, fun p => ?_, rfl, arbiter_default⟩
  · cases p <;> rfl
  · cases p <;> exact ⟨rfl, rfl, rfl, rfl, rfl, rfl, rfl, rfl, rfl, rfl, rfl, rfl, rfl⟩

/-- Settles O6: the map and the queues are empty, and the tables are the defaults. -/
theorem resetMeetsInvariants : Obligations.ResetMeetsInvariants := by
  unfold Obligations.ResetMeetsInvariants
  have norow (P : Row → Prop) : ∀ row ∈ State.reset.rows, P row := fun row h => absurd h List.not_mem_nil
  have norecord (P : RetireRecord → Prop) : ∀ rec ∈ State.reset.trace, P rec := fun rec h => absurd h List.not_mem_nil
  have map : MapSound State.reset := mapSound_of_idle rfl rfl
  refine ⟨⟨⟨fun p => ?_, by decide⟩, rfl, useCount_reset, ⟨norow _, norecord _⟩, ⟨norow _, norow _⟩, map,
    ⟨fun _ => ⟨rfl, useCount_reset⟩, fun id h => absurd (useCount_reset id) h, fun h => by cases h⟩,
    tablesInRange_default rfl rfl rfl rfl rfl (fun t h => by cases h), ⟨map, fun h => absurd rfl h⟩, norecord _, norow _, norow _⟩, rfl⟩
  cases p <;> decide

/-! ### The signature and the terminator -/

section
variable {s : State} (h : ReadingBlocks s)
include h

theorem exec_autoloadTerminator : exec .autoloadTerminator s = .next (terminate s) := by
  obtain ⟨hr, hl, ha⟩ := h
  change execAutoloadTerminator s = _
  rw [execAutoloadTerminator, unlessHeld_of hr, if_pos (by simp [readingBlocks, hl, ha])]

theorem exec_autoloadBlockRead (octets : List Octet) :
    exec (.autoloadBlockRead octets) s = .next (takeBlock octets s) := by
  obtain ⟨hr, hl, ha⟩ := h
  change execAutoloadBlockRead octets s = _
  rw [execAutoloadBlockRead, unlessHeld_of hr, if_pos (by simp [readingBlocks, hl, ha])]

end

theorem exec_autoloadSignatureRead {s : State} (hr : s.resetHeld = false) (hl : s.load = .loading) (ha : s.loadAddr = 0)
    (octets : List Octet) : exec (.autoloadSignatureRead octets) s =
      .next (if octets.take 2 = signature then { s with loadAddr := 2 } else endLoad s) := by
  change execAutoloadSignatureRead octets s = _
  rw [execAutoloadSignatureRead, unlessHeld_of hr, if_pos ⟨hl, ha⟩]

/-- Settles O7. -/
theorem loadBeginsAndEnds : Obligations.LoadBeginsAndEnds := by
  unfold Obligations.LoadBeginsAndEnds
  refine ⟨fun s hr => if_pos hr, fun s octets hr hl ha => ⟨fun h => ?_, fun h => ?_⟩, fun s hread => ?_⟩
  · rw [exec_autoloadSignatureRead hr hl ha, if_pos (by exact h)]
  · rw [exec_autoloadSignatureRead hr hl ha, if_neg (by exact h)]
    rfl
  · rw [exec_autoloadTerminator hread]
    refine ⟨fun h hs => ?_, fun o id h hs hid hv => ?_, fun o id h hs hid hv => ?_, fun o h hs ho => ?_, fun h => ?_⟩
    · rw [terminate, if_neg (by exact not_le.2 h), hs]
      rfl
    · rw [terminate, if_neg (by exact not_le.2 h), hs]
      simp only [recipeIdOf_eq_some hid, hv, if_true]
      rfl
    · rw [terminate, if_neg (by exact not_le.2 h), hs]
      simp only [recipeIdOf_eq_some hid, hv, Bool.false_eq_true, if_false]
    · rw [terminate, if_neg (by exact not_le.2 h), hs]
      simp only [recipeIdOf_eq_none ho]
    · rw [terminate, if_pos (by exact h)]

/-! ### Good entries -/

theorem flagOf_eq_some {o : Octet} {b : Bool} : flagOf o = some b ↔ o = if b then 1 else 0 := by
  constructor
  · intro h
    unfold flagOf at h
    split at h
    · cases h
      assumption
    · split at h <;> cases h
      assumption
  · rintro rfl
    cases b <;> rfl

theorem permsOf_eq_some {o : Octet} {perms : Perms} :
    permsOf o = some perms ↔ o.toNat ≤ 7 ∧ perms = ⟨o.getLsbD 0, o.getLsbD 1, o.getLsbD 2⟩ := by
  unfold permsOf
  split
  · next h => simp only [Option.some.injEq, eq_comm, show o.toNat ≤ 7 by omega, true_and]
  · next h => exact iff_of_false (by simp) fun ⟨h7, _⟩ => h (by omega)

theorem stationOf_eq_some_iff (a : StationArg) (e : Station) : stationOf a = some e ↔
    roleOf a.role = some e.role ∧ a.offset.toNat = e.offset ∧ e.offset ≤ 62 ∧ e.window = max 1 (min 8 a.window.toNat) ∧
    a.required = (if e.required then 1 else 0) ∧ modeOf a.mode = some e.mode ∧ a.perms.toNat ≤ 7 ∧
    e.perms = ⟨a.perms.getLsbD 0, a.perms.getLsbD 1, a.perms.getLsbD 2⟩ := by
  constructor
  · intro h
    unfold stationOf at h
    split at h
    · next role required mode perms hrole hrequired hmode hperms =>
      split at h <;> cases h
      next hoffset =>
        obtain ⟨hbound, hbits⟩ := permsOf_eq_some.1 hperms
        exact ⟨hrole, rfl, hoffset, rfl, flagOf_eq_some.1 hrequired, hmode, hbound, hbits⟩
    · cases h
  · rintro ⟨hrole, hoffset, hlow, hwindow, hrequired, hmode, hbound, hbits⟩
    have perms : permsOf a.perms = some e.perms := permsOf_eq_some.2 ⟨hbound, hbits⟩
    have required : flagOf a.required = some e.required := flagOf_eq_some.2 hrequired
    simp only [stationOf, hrole, required, hmode, perms, hoffset, if_pos hlow, clampTo, ← hwindow]

theorem recipeRefusal_eq_none (a : RecipeArg) : recipeRefusal a = none ↔
    1 ≤ a.cavityCount.toNat ∧ a.cavityCount.toNat ≤ 12 ∧ a.cavities.length = a.cavityCount.toNat ∧
    1 ≤ a.laneMask.toNat ∧ a.laneMask.toNat ≤ 15 ∧ a.dMin.toNat ≤ a.dMax.toNat ∧ a.valid.toNat ≤ 1 ∧
    a.recover.toNat ≤ 1 ∧ ∀ c ∈ a.cavities, 1 ≤ c.cls.toNat ∧ c.cls.toNat ≤ 63 ∧ 1 ≤ c.required.toNat ∧
      c.required.toNat ≤ 15 ∧ c.verify.toNat ≤ 1 ∧ c.orient.toNat ≤ 1 := by
  have cavities : ¬ a.cavities.all cavityArgOk = false ↔ ∀ c ∈ a.cavities, 1 ≤ c.cls.toNat ∧ c.cls.toNat ≤ 63 ∧
      1 ≤ c.required.toNat ∧ c.required.toNat ≤ 15 ∧ c.verify.toNat ≤ 1 ∧ c.orient.toNat ≤ 1 := by
    rw [someCavityBad_iff, not_exists]
    refine forall_congr' fun c => ?_
    rw [not_and]
    exact forall_congr' fun _ => by omega
  by_cases hcount : a.cavityCount.toNat = 0 ∨ 12 < a.cavityCount.toNat
  · rw [recipeRefusal, if_pos hcount]
    exact iff_of_false (by simp) fun h => by omega
  · by_cases hlen : a.cavities.length = a.cavityCount.toNat
    · rw [recipeRefusal_content (by omega) (by omega) hlen, ← cavities]
      simp only [flagOf_eq_none, ite_eq_right_iff, reduceCtorEq, imp_false, not_or]
      constructor
      · rintro ⟨h1, h2, h3, h4, h5, good⟩
        exact ⟨by omega, by omega, hlen, by omega, by omega, by omega, by omega, by omega, good⟩
      · rintro ⟨-, -, -, h1, h2, h3, h4, h5, good⟩
        exact ⟨by omega, by omega, by omega, by omega, by omega, good⟩
    · rw [recipeRefusal, if_neg hcount, if_pos hlen]
      exact iff_of_false (by simp) fun h => hlen h.2.2.1

theorem storedRecipe_eq (a : RecipeArg) : storedRecipe a =
    { valid := a.valid == 1, customer := a.customer, laneMask := BitVec.ofNat 4 a.laneMask.toNat,
      recover := a.recover == 1, refillLimit := min 2 a.refillLimit.toNat, tAct := min 3000 a.tAct.toNat,
      dMin := a.dMin.toNat, dMax := a.dMax.toNat, pMin := min 1000 a.pMin.toNat,
      cavities := a.cavities.map fun c : CavityArg =>
        { cls := c.cls.toNat, required := c.required.toNat, overTol := min 3 c.overTol.toNat,
          feeder := Port.all[c.feeder.toNat]?, verify := c.verify == 1, orient := c.orient == 1 } } := by
  rw [storedRecipe, ← BitVec.ofNat_toNat]
  rfl

/-! ### Blocks applied -/

section
variable {s : State} (hread : ReadingBlocks s)
include hread

/-- A block that is good is applied, and the unit goes on behind it (R168). -/
theorem exec_good_block {type len : Octet} {body : List Octet} {n : Nat} {s1 : State} (htype : type ≠ 0)
    (hlen : len.toNat = body.length) (hn : n = 2 + body.length) (hin : s.loadAddr + n ≤ 2048)
    (h : loadBlock type body s = some s1) :
    exec (.autoloadBlockRead (type :: len :: body)) s = .next { s1 with loadAddr := s.loadAddr + n } := by
  have room : ¬ (body.length < len.toNat ∨ Config.imageSize < s.loadAddr + 2 + len.toNat) := by
    simp only [Config.imageSize]
    omega
  rw [exec_autoloadBlockRead hread]
  simp only [takeBlock, if_neg htype, if_neg room]
  rw [hlen, List.take_length, h, hn, Nat.add_assoc]

end

theorem loadStation_entry {s : State} {q : Port} {a : StationArg} {e : Station} (h : stationOf a = some e) :
    loadBlock 1 [octet (portNat q), a.role, a.offset, a.window, a.required, a.mode, a.perms] s
      = some (s.setStation q e) := by
  have port : portOf (octet (portNat q)) = some q :=
    portOf_eq_some.2 (toNat_octet ((portNat_lt q).trans (by decide)))
  change loadStation (octet (portNat q) :: [a.role, a.offset, a.window, a.required, a.mode, a.perms]) s = _
  simp only [loadStation, port, readStation, Option.bind_some, h]

theorem loadRecipe_entry {s : State} {id : RecipeId} {a : RecipeArg} (h : recipeRefusal a = none) :
    loadBlock 2 (octet id.val :: recipeArgOctets a) s = some (s.setRecipe id (storedRecipe a)) := by
  have named : recipeIdOf (octet id.val) = some id := recipeIdOf_eq_some (toNat_octet (id.isLt.trans (by decide)))
  obtain ⟨-, hmax, hlen, -⟩ := (recipeRefusal_eq_none a).1 h
  have read : readRecipe (recipeArgOctets a) = some a := readRecipe_octets (by omega)
  change loadRecipe (octet id.val :: recipeArgOctets a) s = _
  simp only [loadRecipe, named, read, if_pos h]
  rfl

theorem loadArbiter_table (s : State) (v : Vector Octet 32) :
    loadBlock 3 v.toList s = some { s with arbiter := storedArbiter v } := by
  change loadArbiter _ s = _
  rw [loadArbiter, readPhases_toList, Option.map_some]

theorem loadLevels_values (s : State) (i n h : Half) : loadBlock 4 (halfOctets i ++ halfOctets n ++ halfOctets h) s =
    some { s with interval := storedInterval i, notify := storedNotify n, holdLevel := storedHoldLevel h } := by
  change some { s with
    interval := storedInterval (half _ _), notify := storedNotify (half _ _), holdLevel := storedHoldLevel (half _ _) } = _
  rw [half_octets, half_octets, half_octets]

/-- Settles O8: what is stored, and each block by its reading. -/
theorem goodBlocksApplied : Obligations.GoodBlocksApplied := by
  unfold Obligations.GoodBlocksApplied
  refine ⟨stationOf_eq_some_iff, fun a => ⟨recipeRefusal_eq_none a, storedRecipe_eq a⟩, fun v i => ?_, fun s hread =>
    ⟨fun q a e h hin => exec_good_block hread (by decide) (by rfl) (by rfl) hin (loadStation_entry h), fun id a h hin => ?_,
      fun v hin => ?_, fun i n h hin => exec_good_block hread (by decide) (by rfl) (by rfl) hin (loadLevels_values s i n h),
      fun o hin =>
        exec_good_block (type := 5) (len := 1) (body := [o]) (s1 := { s with loadSelected := some o }) hread (by decide)
          rfl rfl hin rfl⟩⟩
  · rw [get_storedArbiter, portNat_storedPhase]
  · obtain ⟨-, hmax, hlen, -⟩ := (recipeRefusal_eq_none a).1 h
    refine exec_good_block (body := octet id.val :: recipeArgOctets a) hread (by decide) ?_ ?_ hin (loadRecipe_entry h)
    · rw [toNat_octet (by omega), List.length_cons, length_recipeArgOctets]
      omega
    · rw [List.length_cons, length_recipeArgOctets]
      omega
  · have size : v.toList.length = 32 := Vector.length_toList
    exact exec_good_block (type := 3) (len := 32) (body := v.toList) hread (by decide) size.symm (by rw [size]) hin
      (loadArbiter_table s v)

/-! ### Blocks refused -/

theorem length_of_readStation {l : List Octet} {a : StationArg} (h : readStation l = some a) : l.length = 6 := by
  unfold readStation at h
  split at h
  · rfl
  · cases h

/-- What a block that is applied has in its body (R168). -/
theorem loadBlock_body {type : Octet} {body : List Octet} {s s1 : State} (h : loadBlock type body s = some s1) :
    (type.toNat = 1 ∧ ∃ p entry q a e, body = p :: entry ∧ portOf p = some q ∧ readStation entry = some a ∧
        stationOf a = some e) ∨
      (type.toNat = 2 ∧ ∃ o entry a, body = o :: entry ∧ o.toNat ≤ 15 ∧ readRecipe entry = some a ∧
        recipeRefusal a = none) ∨
      (type.toNat = 3 ∧ body.length = 32) ∨ (type.toNat = 4 ∧ body.length = 6) ∨
      type.toNat = 5 ∧ body.length = 1 := by
  unfold loadBlock at h
  split at h
  · next htype =>
    unfold loadStation at h
    split at h
    · split at h <;> cases h
      next hport he =>
        obtain ⟨a, ha, he⟩ := Option.bind_eq_some_iff.1 he
        exact .inl ⟨htype, _, _, _, _, _, rfl, hport, ha, he⟩
    · cases h
  · next htype =>
    unfold loadRecipe at h
    split at h
    · split at h
      · next id r hid hr =>
        split at h <;> cases h
        next hgood =>
          refine .inr (.inl ⟨htype, _, _, _, rfl, ?_, hr, hgood⟩)
          by_contra hbig
          rw [recipeIdOf_eq_none (by omega)] at hid
          cases hid
      · cases h
    · cases h
  · next htype =>
    obtain ⟨v, hv, -⟩ := Option.map_eq_some_iff.1 h
    refine .inr (.inr (.inl ⟨htype, ?_⟩))
    rw [← toList_of_readPhases hv, Vector.length_toList]
  · next htype =>
    unfold loadLevels at h
    split at h
    · exact .inr (.inr (.inr (.inl ⟨htype, rfl⟩)))
    · cases h
  · next htype =>
    unfold loadSelection at h
    split at h
    · exact .inr (.inr (.inr (.inr ⟨htype, rfl⟩)))
    · cases h
  · cases h

/-- A block whose type, length or entry the rules refuse is applied by no type's rule (R168). -/
theorem loadBlock_refused {type len : Octet} {more : List Octet} {s : State} (hlen : len.toNat ≤ more.length)
    (h : 5 < type.toNat ∨
      (type = 1 ∧ (len ≠ 7 ∨ 7 < (more.headD 0).toNat ∨
        ∀ a, readStation ((more.take 7).drop 1) = some a → stationOf a = none)) ∨
      (type = 2 ∧ (len = 0 ∨ 15 < (more.headD 0).toNat ∨
        ∀ a, readRecipe ((more.take len.toNat).drop 1) = some a → recipeRefusal a ≠ none)) ∨
      (type = 3 ∧ len ≠ 32) ∨ (type = 4 ∧ len ≠ 6) ∨ (type = 5 ∧ len ≠ 1)) :
    loadBlock type (more.take len.toNat) s = none := by
  have length : (more.take len.toNat).length = len.toNat := by rw [List.length_take]; omega
  have sized {n : Octet} (hn : len ≠ n) : (more.take len.toNat).length ≠ n.toNat := by
    rw [length]
    exact fun same => hn (BitVec.eq_of_toNat_eq same)
  have head {p : Octet} {entry : List Octet} (hb : more.take len.toNat = p :: entry) : more.headD 0 = p := by
    cases more with
    | nil => rw [List.take_nil] at hb; cases hb
    | cons x more =>
      cases hk : len.toNat with
      | zero => rw [hk] at hb; cases hb
      | succ k => rw [hk] at hb; exact (List.cons.inj hb).1
  refine Option.eq_none_iff_forall_not_mem.2 fun s1 hs1 => ?_
  obtain ⟨htype, p, entry, q, a, e, hbody, hport, ha, he⟩ | ⟨htype, o, entry, a, hbody, ho, ha, hgood⟩ | ⟨htype, hbody⟩ |
    ⟨htype, hbody⟩ | ⟨htype, hbody⟩ := loadBlock_body hs1
  · have seven : len.toNat = 7 := by rw [← length, hbody, List.length_cons, length_of_readStation ha]
    obtain h | ⟨-, hne | hbig | hbad⟩ | ⟨rfl, -⟩ | ⟨rfl, -⟩ | ⟨rfl, -⟩ | ⟨rfl, -⟩ := h
    · omega
    · exact hne (BitVec.eq_of_toNat_eq seven)
    · rw [head hbody, ← portOf_eq_none, hport] at hbig
      cases hbig
    · rw [← seven, hbody] at hbad
      rw [hbad a ha] at he
      cases he
    all_goals exact absurd htype (by decide)
  · obtain h | ⟨rfl, -⟩ | ⟨-, rfl | hbig | hbad⟩ | ⟨rfl, -⟩ | ⟨rfl, -⟩ | ⟨rfl, -⟩ := h
    · omega
    · exact absurd htype (by decide)
    · cases hbody
    · rw [head hbody] at hbig
      omega
    · rw [hbody] at hbad
      exact hbad a ha hgood
    all_goals exact absurd htype (by decide)
  · obtain rfl : type = 3 := BitVec.eq_of_toNat_eq htype
    have hne : len ≠ 32 := by simpa using h
    exact sized hne hbody
  · obtain rfl : type = 4 := BitVec.eq_of_toNat_eq htype
    have hne : len ≠ 6 := by simpa using h
    exact sized hne hbody
  · obtain rfl : type = 5 := BitVec.eq_of_toNat_eq htype
    have hne : len ≠ 1 := by simpa using h
    exact sized hne hbody

theorem takeBlock_refused {s : State} {octets : List Octet} (h : RefusedBlock s octets) : takeBlock octets s = stopLoad s := by
  match octets with
  | [] => rfl
  | [type] => exact if_neg h
  | type :: len :: more =>
    obtain ⟨htype, h⟩ := h
    simp only [takeBlock, if_neg htype]
    by_cases hroom : more.length < len.toNat ∨ Config.imageSize < s.loadAddr + 2 + len.toNat
    · rw [if_pos hroom]
    · rw [if_neg hroom, loadBlock_refused (by omega) (by tauto)]

/-- The port block where an event is raised: latched, and an ATTENTION offered where its masked status was empty and the
event is enabled (R158, R162). -/
theorem port_raise_everyPort (e : Event) (s : State) (p : Port) : (raise everyPort e s).port p =
    (let b := { s.port p with latched := (s.port p).latched ||| eventBit e }
     if s.conditions &&& b.enables = 0 ∧ (s.port p).latched &&& b.enables = 0 ∧ eventBit e &&& b.enables ≠ 0
     then b.offerAttention else b) := by
  have latched : (latchOn everyPort e s).port p = { s.port p with latched := (s.port p).latched ||| eventBit e } :=
    port_latchOn everyPort e s p
  have before : s.masked p = 0 ↔ s.conditions &&& (s.port p).enables = 0 ∧ (s.port p).latched &&& (s.port p).enables = 0 := by
    rw [State.masked, State.statusSet, BitVec.and_or_distrib_right]
    exact BitVec.or_eq_zero_iff
  have after : (latchOn everyPort e s).masked p
      = s.masked p ||| (eventBit e &&& (s.port p).enables) := by
    rw [State.masked, State.statusSet, latched, State.masked, State.statusSet, ← BitVec.and_or_distrib_right,
      BitVec.or_assoc]
    rfl
  have empty (hb : s.masked p = 0) : (latchOn everyPort e s).masked p = eventBit e &&& (s.port p).enables := by
    rw [after, hb]
    exact BitVec.zero_or
  rw [port_raise, latched]
  refine if_congr ⟨fun ⟨hb, ha⟩ => ?_, fun ⟨h1, h2, h3⟩ => ?_⟩ rfl rfl
  · obtain ⟨h1, h2⟩ := before.1 hb
    exact ⟨h1, h2, by rw [empty hb] at ha; exact ha⟩
  · have hb := before.2 ⟨h1, h2⟩
    exact ⟨hb, by rw [empty hb]; exact h3⟩

/-- Settles O9: what refuses a block, and what `stopLoad` leaves. -/
theorem refusedBlocksRestoreDefaults : Obligations.RefusedBlocksRestoreDefaults := by
  unfold Obligations.RefusedBlocksRestoreDefaults
  refine fun s octets hread h => ⟨?_, rfl, fun t ht => ?_, fun p => port_raise_everyPort .loadFault _ p⟩
  · rw [exec_autoloadBlockRead hread, takeBlock_refused h]
  · cases ht
    exact ⟨rfl, rfl, rfl⟩

end Sys2Proof.Machine

/-! ## The way of a request to its application -/

namespace Sys2Proof.Machine

/-! ### Commands while RESET_N is low -/

theorem serve_held {s : State} (h : s.resetHeld = true) (r : Request) (app : State → State × Answer) :
    serve r app s = .next s := if_pos h

theorem unlessHeld_held {s : State} (h : s.resetHeld = true) (f : State → State) : unlessHeld f s = .next s := if_pos h

/-- A request command is the service of its request (R153). -/
theorem exec_request {c : Instr} {r : Request} (hc : requestOf c = some r) : ∃ app, ∀ s, exec c s = serve r app s := by
  cases c <;> cases hc <;> exact ⟨_, fun _ => rfl⟩

theorem exec_held {c : Instr} {s : State} (h : s.resetHeld = true) (h1 : c ≠ .masterReset) (h2 : c ≠ .resetRelease) :
    exec c s = .next s := by
  cases hc : requestOf c with
  | some r =>
    obtain ⟨app, hexec⟩ := exec_request hc
    rw [hexec, serve_held h]
  | none =>
    cases c
    case masterReset => exact absurd rfl h1
    case resetRelease => exact absurd rfl h2
    case advance => exact if_pos (.inl h)
    case autoloadSignatureRead | autoloadBlockRead | autoloadTerminator | indexPulse | frameReceive | linkDown
        | frameSendStart | frameSendComplete | arbiterGrant | timeTagTick | idleFillReceive =>
      exact if_pos h
    all_goals cases hc

/-! ### A request that has come to the part -/

theorem arrived_of_mem {r : Request} {s : State} (h : asQueued r ∈ (s.port r.port).inbound) : arrived r s = s := if_pos h

theorem arrived_of_not_mem {r : Request} {s : State} (h : asQueued r ∉ (s.port r.port).inbound) :
    arrived r s = receiveRequest r.port (asQueued r) s := if_neg h

theorem arrived_eq (r : Request) (s : State) : ∃ v, arrived r s = { s with ports := v } := by
  unfold arrived
  split
  · exact ⟨s.ports, rfl⟩
  · exact receiveRequest_eq r.port (asQueued r) s

theorem brought_of_free {r : Request} {s : State} (h : s.engine = none) : brought r s = grantNext (arrived r s) :=
  if_neg (by rw [h]; exact (Option.some_ne_none r).symm)

theorem grantNext_busy {s : State} {held : Request} (h : s.engine = some held) : grantNext s = s :=
  if_neg (by rw [h]; exact Option.some_ne_none held)

theorem serve_waits {r : Request} {s : State} (h : s.resetHeld = false) (hb : (brought r s).engine ≠ some r)
    (app : State → State × Answer) : serve r app s = .next (brought r s) := by
  rw [serve, if_neg (by rw [h]; exact Bool.false_ne_true), if_neg hb]

/-- While the engine holds another request, a command only stands for the arrival of its own (log entry 2). -/
theorem exec_busy {c : Instr} {r held : Request} {s : State} (hc : requestOf c = some r) (hr : s.resetHeld = false)
    (he : s.engine = some held) (hne : held ≠ r) : exec c s = .next (arrived r s) := by
  obtain ⟨app, hexec⟩ := exec_request hc
  obtain ⟨v, hv⟩ := arrived_eq r s
  have other : s.engine ≠ some r := by rw [he]; exact fun h => hne (Option.some.inj h)
  have stays : brought r s = arrived r s := by
    rw [brought, if_neg other]
    exact grantNext_busy (held := held) (by rw [hv]; exact he)
  rw [hexec, serve_waits hr (by rw [stays, hv]; exact other), stays]

/-- With the engine free the command is the same command after one grant, or leaves what that grant leaves (log entry
2). -/
theorem exec_granted {c : Instr} {r : Request} {s g : State} (hc : requestOf c = some r) (hr : s.resetHeld = false)
    (he : s.engine = none) (hg : exec .arbiterGrant (arrived r s) = .next g) :
    (g.engine = some r → exec c s = exec c g) ∧ (g.engine ≠ some r → exec c s = .next g) := by
  obtain ⟨app, hexec⟩ := exec_request hc
  obtain ⟨v, hv⟩ := arrived_eq r s
  have held : (arrived r s).resetHeld = false := by rw [hv]; exact hr
  rw [exec_arbiterGrant held] at hg
  obtain rfl : grantNext (arrived r s) = g := by injection hg
  rw [← brought_of_free he]
  refine ⟨fun h => ?_, fun h => ?_⟩
  · obtain ⟨v, e, i, hbrought⟩ := brought_eq r s
    rw [hexec, hexec, serve_brought hr (by rw [hbrought]; exact hr), if_pos h]
  · rw [hexec, serve_waits hr h]

/-! ### A request that has to wait -/

/-- A port block to which a request has come: the request stands in its inbound queue behind what was there, no message
but a CREDIT has joined the outbound queue, and a full outbound queue is full still. -/
structure HasArrived (q : InReq) (before after : PortBlock) : Prop where
  mem : q ∈ after.inbound
  behind : ∃ l, after.inbound = before.inbound ++ l
  outbound : ∀ m ∈ after.outbound, m ∈ before.outbound ∨ m = .credit
  full : 8 ≤ before.outbound.length + before.reserved → after.hasFree = false

theorem hasArrived_arrived {r : Request} {s : State} (h : (s.port r.port).inbound.length < 16) :
    HasArrived (asQueued r) (s.port r.port) ((arrived r s).port r.port) := by
  by_cases hmem : asQueued r ∈ (s.port r.port).inbound
  · rw [arrived_of_mem hmem]
    exact ⟨hmem, ⟨[], (List.append_nil _).symm⟩, fun m hm => .inl hm, PortBlock.hasFree_of_le⟩
  · rw [arrived_of_not_mem hmem, receiveRequest_room h, State.port_setPort_same]
    obtain ⟨-, hup⟩ | ⟨-, hup⟩ := linkUp_eq (s.port r.port)
    · refine ⟨by simp, ⟨[asQueued r], by simp⟩, fun m hm => ?_, fun hfull => ?_⟩
      · rw [hup] at hm
        exact PortBlock.mem_offerCredit (b := { s.port r.port with link := .up, quiet := 0 }) hm
      · have full : ({ s.port r.port with link := .up, quiet := 0 } : PortBlock).hasFree = false :=
          PortBlock.hasFree_of_le hfull
        rw [hup, PortBlock.offerCredit_full full]
        exact full
    · rw [hup]
      exact ⟨by simp, ⟨[asQueued r], rfl⟩, fun m hm => .inl hm, fun hfull => PortBlock.hasFree_of_le hfull⟩

/-- A block after a grant of another of its requests. -/
theorem HasArrived.granted {q x : InReq} {rest : List InReq} {b b1 : PortBlock} (h : HasArrived q b b1) (hne : q ≠ x)
    (he : eligible b1 = some (x, rest)) : q ∈ (grantedBlock x rest b1).inbound ∧
      ∀ m ∈ (grantedBlock x rest b1).outbound, m ∈ b.outbound ∨ m = .credit := by
  obtain ⟨l, m, hin, rfl, -, -⟩ := eligible_eq_some he
  have stays : q ∈ l ++ m := by
    have := h.mem
    rw [hin] at this
    simpa [hne] using this
  obtain ⟨c, rfl, hc | hc⟩ := grantedBlock_eq x (l ++ m) b1
  · rw [hc]
    exact ⟨stays, h.outbound⟩
  · rw [hc, PortBlock.offerCredit_inbound]
    refine ⟨stays, fun m hm => ?_⟩
    obtain hm | hm := PortBlock.mem_offerCredit hm
    · exact h.outbound m hm
    · exact .inr hm

/-- A query or command that is not the oldest of its port, or whose outbound queue is full, is not the request that its
port offers the arbiter (R150). -/
theorem HasArrived.not_eligible {q x : InReq} {rest : List InReq} {b b1 : PortBlock} (h : HasArrived q b b1)
    (hq : q.body.posted = false)
    (hwait : (∃ x older, b.inbound = x :: older ∧ x ≠ q) ∨ 8 ≤ b.outbound.length + b.reserved)
    (he : eligible b1 = some (x, rest)) : q ≠ x := by
  rintro rfl
  obtain ⟨l, m, hin, -, -, ⟨hfree, rfl⟩ | ⟨-, hposted⟩⟩ := eligible_eq_some he
  · obtain ⟨y, older, hb, hy⟩ | hfull := hwait
    · obtain ⟨l, hl⟩ := h.behind
      rw [hin, hb] at hl
      exact hy (List.cons.inj hl).1.symm
    · rw [h.full hfull] at hfree
      cases hfree
  · rw [hq] at hposted
    cases hposted

theorem exec_waits {c : Instr} {r : Request} {s : State} (hc : requestOf c = some r) (hr : s.resetHeld = false)
    (he : s.engine = none) (hposted : r.body.posted = false) (hroom : (s.port r.port).inbound.length < 16)
    (hwait : (∃ x older, (s.port r.port).inbound = x :: older ∧ x ≠ asQueued r) ∨
      8 ≤ (s.port r.port).outbound.length + (s.port r.port).reserved) :
    ∃ t, exec c s = .next t ∧ t.engine ≠ some r ∧ asQueued r ∈ (t.port r.port).inbound ∧
      t = { s with engine := t.engine, phase := t.phase, ports := t.ports } ∧
      ∀ m ∈ (t.port r.port).outbound, m ∈ (s.port r.port).outbound ∨ m = .credit := by
  obtain ⟨app, hexec⟩ := exec_request hc
  have here := hasArrived_arrived (r := r) hroom
  have waits : (brought r s).engine ≠ some r ∧ asQueued r ∈ ((brought r s).port r.port).inbound ∧
      ∀ m ∈ ((brought r s).port r.port).outbound, m ∈ (s.port r.port).outbound ∨ m = .credit := by
    rw [brought_of_free he]
    obtain hg | ⟨i, p, q, rest, -, -, hel, hg⟩ := grantNext_eq (arrived r s)
    · obtain ⟨v, hv⟩ := arrived_eq r s
      rw [hg]
      refine ⟨?_, here.mem, here.outbound⟩
      rw [hv]
      exact fun h => Option.some_ne_none r (h.symm.trans he)
    · rw [hg]
      by_cases hp : r.port = p
      · subst hp
        have other := here.not_eligible hposted hwait hel
        obtain ⟨hin, hout⟩ := here.granted other hel
        refine ⟨fun h => other ?_, ?_, ?_⟩
        · rw [← Option.some.inj h]
          rfl
        · change asQueued r ∈ (((arrived r s).onPort r.port (grantedBlock q rest)).port r.port).inbound
          rw [State.port_onPort_same]
          exact hin
        · change ∀ m ∈ (((arrived r s).onPort r.port (grantedBlock q rest)).port r.port).outbound, _
          rw [State.port_onPort_same]
          exact hout
      · refine ⟨fun h => hp ?_, ?_, ?_⟩
        · rw [← Option.some.inj h]
        · change asQueued r ∈ (((arrived r s).onPort p (grantedBlock q rest)).port r.port).inbound
          rw [State.port_onPort_of_ne _ _ hp]
          exact here.mem
        · change ∀ m ∈ (((arrived r s).onPort p (grantedBlock q rest)).port r.port).outbound, _
          rw [State.port_onPort_of_ne _ _ hp]
          exact here.outbound
  obtain ⟨hne, hmem, hout⟩ := waits
  obtain ⟨v, e, i, hbrought⟩ := brought_eq r s
  refine ⟨brought r s, by rw [hexec, serve_waits hr hne], hne, hmem, ?_, hout⟩
  rw [hbrought]

/-- Settles O2: reset, autoload, the arrival in a frame, and the one grant that a command brings about. -/
theorem requestServiceCases : Obligations.RequestServiceCases := by
  unfold Obligations.RequestServiceCases
  refine ⟨fun c s h h1 h2 => exec_held h h1 h2, fun c r s hc hr => ⟨fun hl he => ?_, fun hwf credit => ?_,
    fun a ha => ?_, fun he hposted hroom hwait => exec_waits hc hr he hposted hroom hwait⟩⟩
  · obtain ⟨app, hexec⟩ := exec_request hc
    rw [hexec, serve_loading hr hl he]
  · have read := readFrame_requestFrame ⟨r.tag, r.body⟩ credit hwf
    refine exec_frameReceive_good hr (fun hnil => ?_) read
    rw [hnil] at read
    cases read
  · obtain rfl : arrived r s = a := by
      obtain ⟨hmem, rfl⟩ | ⟨hmem, rfl⟩ := ha
      · exact arrived_of_mem hmem
      · exact arrived_of_not_mem hmem
    exact ⟨fun held he hne => exec_busy hc hr he hne, fun he g hg => exec_granted hc hr he hg⟩

end Sys2Proof.Machine

/-! ## The payloads sent (chapter 9, section 9.7) -/

namespace Sys2Proof.Machine

/-! ### Reading a layout -/

/-- Bits `hi` to `lo` of a packed octet are a place of the packed number. -/
theorem bitsOf_packed {l : List OutOctet} {i hi lo n v : Nat} {u : Octet} (h : l[i]? = some (packed u n))
    (hv : n / 2 ^ lo % 2 ^ (hi + 1 - lo) = v) (hu : u.extractLsb' lo (hi + 1 - lo) = 0 := by decide)
    (hhi : hi ≤ 7 := by decide) (hlo : lo ≤ hi := by decide) :
    bitsOf l i hi lo = some v := by
  have split8 : 2 ^ 8 = 2 ^ lo * 2 ^ (8 - lo) := by rw [← Nat.pow_add, Nat.add_sub_cancel' (by omega)]
  have place : n % 2 ^ 8 / 2 ^ lo % 2 ^ (hi + 1 - lo) = v := by
    rw [split8, Nat.mod_mul_right_div_self, Nat.mod_mod_of_dvd _ (Nat.pow_dvd_pow 2 (by omega)), hv]
  unfold bitsOf
  rw [h]
  simp only [packed, hu, if_true, octet, BitVec.extractLsb'_toNat, BitVec.toNat_ofNat, Nat.shiftRight_eq_div_pow, place]

/-- The octets of a field that a layout names are read as one number, high octet first. -/
theorem fieldOf_named {l : List OutOctet} {i n : Nat} {os : List Octet} (h : (l.drop i).take n = named os)
    (hn : os.length = n) : fieldOf l i n = some (os.foldl (fun v o => v * 256 + o.toNat) 0) := by
  unfold fieldOf
  rw [h]
  simp [named, hn, List.foldl_map]

theorem fieldOf_octet {l : List OutOctet} {i k : Nat} (h : (l.drop i).take 1 = named [octet k]) (hk : k ≤ 255) :
    fieldOf l i 1 = some k := by
  rw [fieldOf_named h rfl, List.foldl_cons, List.foldl_nil, toNat_octet (by omega), Nat.zero_mul, Nat.zero_add]

theorem fieldOf_half {l : List OutOctet} {i : Nat} {x : Half} (h : (l.drop i).take 2 = named (halfOctets x)) :
    fieldOf l i 2 = some x.toNat := by
  have hx := x.isLt
  rw [fieldOf_named h rfl, halfOctets_eq]
  simp only [List.foldl_cons, List.foldl_nil]
  rw [toNat_octet (by omega), toNat_octet (by omega)]
  congr 1
  omega

theorem fieldOf_natHalf {l : List OutOctet} {i k : Nat} (h : (l.drop i).take 2 = named (natHalf k)) (hk : k ≤ 65535) :
    fieldOf l i 2 = some k := by
  rw [fieldOf_half h, BitVec.toNat_ofNat, Nat.mod_eq_of_lt (by omega)]

theorem fieldOf_word {l : List OutOctet} {i : Nat} {w : Word} (h : (l.drop i).take 4 = named (wordOctets w)) :
    fieldOf l i 4 = some w.toNat := by
  have hw := w.isLt
  rw [fieldOf_named h rfl, wordOctets_eq]
  simp only [List.foldl_cons, List.foldl_nil]
  rw [toNat_octet (by omega), toNat_octet (by omega), toNat_octet (by omega), toNat_octet (by omega)]
  congr 1
  omega

/-- Where each element of a list gives two octets, element `i` gives octets `2 i` and `2 i + 1`. -/
theorem getElem?_flatMap_pair {α : Type} {f g : α → OutOctet} {x : α} {l : List α} {i : Nat} (h : l[i]? = some x) :
    (l.flatMap fun y => [f y, g y])[2 * i]? = some (f x) ∧ (l.flatMap fun y => [f y, g y])[2 * i + 1]? = some (g x) := by
  induction l generalizing i with
  | nil => cases h
  | cons y ys ih =>
    cases i with
    | zero =>
      obtain rfl : y = x := Option.some.inj h
      exact ⟨rfl, rfl⟩
    | succ i => exact ih h

theorem length_flatMap_pair {α : Type} (f g : α → OutOctet) (l : List α) :
    (l.flatMap fun y => [f y, g y]).length = 2 * l.length := by
  induction l with
  | nil => rfl
  | cons y ys ih => rw [List.flatMap_cons, List.length_append, ih, List.length_cons]; simp; omega

/-! ### The ranges of the codes -/

theorem flagAt_eq (i : Nat) (b : Bool) : flagAt i b = 2 ^ i * if b then 1 else 0 := by
  cases b
  · rfl
  · exact (Nat.mul_one _).symm

theorem flag_le_one (b : Bool) : (if b = true then 1 else 0) ≤ 1 := by cases b <;> decide

theorem reasonCode_le (r : Option Reason) : reasonCode r ≤ 15 := by
  obtain - | r := r
  · decide
  · cases r <;> decide

theorem dischargeCode_le (d : Option Discharge) : dischargeCode d ≤ 7 := by
  obtain - | d := d
  · decide
  · cases d <;> decide

theorem refillCode_le (r : Option RefillOutcome) : refillCode r ≤ 7 := by
  obtain - | r := r
  · decide
  · cases r <;> decide

theorem formCode_le (f : Option FormOutcome) : formCode f ≤ 3 := by
  obtain - | f := f
  · decide
  · cases f <;> decide

theorem verdictCode_le (v : Option Verdict) : verdictCode v ≤ 3 := by
  obtain - | v := v
  · decide
  · cases v <;> decide

theorem stateCode_le (x : CardState) : stateCode x ≤ 3 := by cases x <;> decide

theorem orientationCode_le (o : Orientation) : orientationCode o ≤ 3 := by cases o <;> decide

theorem portCode_le (p : Option Port) : portCode p ≤ 15 := by
  obtain - | p := p
  · decide
  · cases p <;> decide

theorem rejectBit_eq (v : Verdict) : rejectBit v = 32 * if v = .reject then 1 else 0 := by cases v <;> rfl

theorem reject_le_one (v : Verdict) : (if v = .reject then 1 else 0) ≤ 1 := by cases v <;> decide

/-! ### Codes and plain messages -/

theorem bitsOf_condOctets_high (c : CondSet) : bitsOf (condOctets c) 0 3 0 = some (c.toNat / 256) := by
  have hc := c.isLt
  have hvalue : (((c.setWidth 16).extractLsb' 8 8).extractLsb' 0 4).toNat = c.toNat / 256 := by
    simp only [BitVec.extractLsb'_toNat, BitVec.toNat_setWidth, Nat.shiftRight_eq_div_pow]
    omega
  have first : (condOctets c)[0]? = some ⟨(c.setWidth 16).extractLsb' 8 8, 0xF0⟩ := rfl
  unfold bitsOf
  rw [first]
  exact (if_pos (show (0xF0 : Octet).extractLsb' 0 4 = 0 by decide)).trans (congrArg some hvalue)

theorem fieldOf_condOctets_low (c : CondSet) : fieldOf (condOctets c) 1 1 = some (c.toNat % 256) := by
  have hc := c.isLt
  have hvalue : ((c.setWidth 16).extractLsb' 0 8).toNat = c.toNat % 256 := by
    simp only [BitVec.extractLsb'_toNat, BitVec.toNat_setWidth, Nat.shiftRight_eq_div_pow]
    omega
  rw [← hvalue, fieldOf_named (n := 1) (os := [(c.setWidth 16).extractLsb' 0 8]) (by rfl) rfl, List.foldl_cons,
    List.foldl_nil, Nat.zero_mul, Nat.zero_add]

/-! ### Entries -/

theorem stationOctets_permissions (e : Station) :
    bitsOf (stationOctets e) 5 0 0 = some (if e.perms.operate then 1 else 0) ∧
    bitsOf (stationOctets e) 5 1 1 = some (if e.perms.config then 1 else 0) ∧
    bitsOf (stationOctets e) 5 2 2 = some (if e.perms.trace then 1 else 0) := by
  have ho := flag_le_one e.perms.operate
  have hc := flag_le_one e.perms.config
  have ht := flag_le_one e.perms.trace
  have last : (stationOctets e)[5]?
      = some (packed 0xF8 (flagAt 0 e.perms.operate + flagAt 1 e.perms.config + flagAt 2 e.perms.trace)) := rfl
  simp only [flagAt_eq] at last
  refine ⟨bitsOf_packed last ?_, bitsOf_packed last ?_, bitsOf_packed last ?_⟩ <;> omega

theorem specOctets_eq (c : CavitySpec) : specOctets c = [octet c.cls, octet c.required, octet c.overTol,
    c.feeder.elim 255 fun p => octet (portNat p), flagOctet c.verify, flagOctet c.orient] := by
  unfold specOctets
  cases c.feeder <;> rfl

/-! ### RESPONSEs -/

/-- The part of a ROW_QUERY RESPONSE for one card. -/
def rowCardOctets (c : RowCard) : List OutOctet :=
  [packed 0x03 (laneBits c.lane + stateCode c.state * 16 + verdictCode c.verdict * 4), packed 0 (reasonCode c.reason)]

theorem rowCardOctets_fields (c : RowCard) : (rowCardOctets c).length = 2 ∧
    bitsOf (rowCardOctets c) 0 7 6 = some c.lane.val ∧ bitsOf (rowCardOctets c) 0 5 4 = some (stateCode c.state) ∧
    bitsOf (rowCardOctets c) 0 3 2 = some (verdictCode c.verdict) ∧
    fieldOf (rowCardOctets c) 1 1 = some (reasonCode c.reason) := by
  have hlane := c.lane.isLt
  have hstate := stateCode_le c.state
  have hverdict := verdictCode_le c.verdict
  have first : (rowCardOctets c)[0]?
      = some (packed 0x03 (c.lane.val * 64 + stateCode c.state * 16 + verdictCode c.verdict * 4)) := rfl
  refine ⟨rfl, bitsOf_packed first (by omega), bitsOf_packed first (by omega), bitsOf_packed first (by omega),
    fieldOf_octet (by rfl) ((reasonCode_le _).trans (by decide))⟩

theorem traceOctets_flags (kind : OutOctet) (r : TraceReport) :
    bitsOf (kind :: traceOctets r) 9 0 0 = some (if r.ready then 1 else 0) ∧
    bitsOf (kind :: traceOctets r) 9 1 1 = some (if r.hold then 1 else 0) := by
  have hready := flag_le_one r.ready
  have hhold := flag_le_one r.hold
  have ninth : (kind :: traceOctets r)[9]? = some (packed 0xFC (flagAt 0 r.ready + flagAt 1 r.hold)) := rfl
  simp only [flagAt_eq] at ninth
  exact ⟨bitsOf_packed ninth (by omega), bitsOf_packed ninth (by omega)⟩

/-! ### Briefs -/

/-- The part of a FEED brief for one card. -/
def feedOctets (c : FeedCard) : List OutOctet :=
  [packed 0x3E (laneBits c.lane + flagAt 0 c.condemned), packed 0 c.cavities.length]
    ++ c.cavities.flatMap fun x => [packed 0 (x.1 * 16 + x.2.1), packed 0xC0 x.2.2]

theorem feedOctets_head (c : FeedCard) : (feedOctets c).length = 2 + 2 * c.cavities.length ∧
    bitsOf (feedOctets c) 0 7 6 = some c.lane.val ∧ bitsOf (feedOctets c) 0 0 0 = some (if c.condemned then 1 else 0) ∧
    (c.cavities.length ≤ 255 → fieldOf (feedOctets c) 1 1 = some c.cavities.length) := by
  have hlane := c.lane.isLt
  have hflag := flag_le_one c.condemned
  have first : (feedOctets c)[0]? = some (packed 0x3E (c.lane.val * 64 + flagAt 0 c.condemned)) := rfl
  simp only [flagAt_eq] at first
  refine ⟨?_, bitsOf_packed first (by omega), bitsOf_packed first (by omega), fun h => fieldOf_octet (by rfl) h⟩
  rw [feedOctets, List.length_append, length_flatMap_pair]
  rfl

theorem feedOctets_cavity (c : FeedCard) {i cavity required cls : Nat} (hi : c.cavities[i]? = some (cavity, required, cls))
    (hcavity : cavity ≤ 15) (hrequired : required ≤ 15) (hcls : cls ≤ 63) :
    bitsOf (feedOctets c) (2 + 2 * i) 7 4 = some cavity ∧ bitsOf (feedOctets c) (2 + 2 * i) 3 0 = some required ∧
    bitsOf (feedOctets c) (3 + 2 * i) 5 0 = some cls := by
  obtain ⟨even, odd⟩ := getElem?_flatMap_pair (f := fun x : Nat × Nat × Nat => packed 0 (x.1 * 16 + x.2.1))
    (g := fun x => packed 0xC0 x.2.2) hi
  rw [Nat.add_comm 2, show 3 + 2 * i = 2 * i + 1 + 2 by omega]
  exact ⟨bitsOf_packed even (by simp; omega), bitsOf_packed even (by simp; omega), bitsOf_packed odd (by simp; omega)⟩

/-- The part of an INSPECT brief for one card. -/
def inspectOctets (c : InspectCard) : List OutOctet :=
  [packed 0x3E (laneBits c.lane + flagAt 0 c.condemned)] ++ c.cavities.flatMap fun x =>
    [packed 0 (x.cls * 4 + flagAt 1 x.verify + flagAt 0 x.orient), packed 0 (x.required * 16 + x.count)]

theorem inspectOctets_head (c : InspectCard) : (inspectOctets c).length = 1 + 2 * c.cavities.length ∧
    bitsOf (inspectOctets c) 0 7 6 = some c.lane.val ∧
    bitsOf (inspectOctets c) 0 0 0 = some (if c.condemned then 1 else 0) := by
  have hlane := c.lane.isLt
  have hflag := flag_le_one c.condemned
  have first : (inspectOctets c)[0]? = some (packed 0x3E (c.lane.val * 64 + flagAt 0 c.condemned)) := rfl
  simp only [flagAt_eq] at first
  refine ⟨?_, bitsOf_packed first (by omega), bitsOf_packed first (by omega)⟩
  rw [inspectOctets, List.length_append, length_flatMap_pair]
  rfl

theorem inspectOctets_cavity (c : InspectCard) {i : Nat} {x : InspectCavity} (hi : c.cavities[i]? = some x)
    (hcls : x.cls ≤ 63) (hrequired : x.required ≤ 15) (hcount : x.count ≤ 15) :
    bitsOf (inspectOctets c) (1 + 2 * i) 7 2 = some x.cls ∧
    bitsOf (inspectOctets c) (1 + 2 * i) 1 1 = some (if x.verify then 1 else 0) ∧
    bitsOf (inspectOctets c) (1 + 2 * i) 0 0 = some (if x.orient then 1 else 0) ∧
    bitsOf (inspectOctets c) (2 + 2 * i) 7 4 = some x.required ∧
    bitsOf (inspectOctets c) (2 + 2 * i) 3 0 = some x.count := by
  obtain ⟨even, odd⟩ := getElem?_flatMap_pair
    (f := fun x : InspectCavity => packed 0 (x.cls * 4 + flagAt 1 x.verify + flagAt 0 x.orient))
    (g := fun x => packed 0 (x.required * 16 + x.count)) hi
  have hverify := flag_le_one x.verify
  have horient := flag_le_one x.orient
  rw [Nat.add_comm 1, show 2 + 2 * i = 2 * i + 1 + 1 by omega]
  exact ⟨bitsOf_packed even (by simp only [flagAt_eq]; omega), bitsOf_packed even (by simp only [flagAt_eq]; omega),
    bitsOf_packed even (by simp only [flagAt_eq]; omega), bitsOf_packed odd (by omega), bitsOf_packed odd (by omega)⟩

/-- One order line of a TOP-UP brief. -/
def orderOctets (l : OrderLine) : List OutOctet :=
  named (natHalf (l.lane.val * 16384 + l.cavity * 1024 + l.missing * 64 + l.cls))

theorem briefOctets_topup (row : Word) (id : RecipeId) (lines : List OrderLine) : briefOctets (.topup row id lines)
    = named ([4] ++ wordOctets row ++ [octet id.val, octet lines.length]) ++ lines.flatMap orderOctets := by
  simp only [briefOctets, named, List.map_append, List.map_flatMap]
  rfl

theorem orderOctets_field (x : OrderLine) (hcavity : x.cavity ≤ 15) (hmissing : x.missing ≤ 15) (hcls : x.cls ≤ 63) :
    fieldOf (orderOctets x) 0 2 = some (x.lane.val * 2 ^ 14 + x.cavity * 2 ^ 10 + x.missing * 2 ^ 6 + x.cls) := by
  have hlane := x.lane.isLt
  exact fieldOf_natHalf (by rfl) (by omega)

/-- The part of a SEAL brief for one card. -/
def sealOctets (c : SealCard) : List OutOctet :=
  [packed 0x38 (laneBits c.lane + flagAt 2 c.condemned + flagAt 1 c.inhibited + flagAt 0 c.saturated)]
    ++ named ([octet c.hits] ++ natHalf c.dose)

theorem sealOctets_fields (c : SealCard) : (sealOctets c).length = 4 ∧ bitsOf (sealOctets c) 0 7 6 = some c.lane.val ∧
    bitsOf (sealOctets c) 0 2 2 = some (if c.condemned then 1 else 0) ∧
    bitsOf (sealOctets c) 0 1 1 = some (if c.inhibited then 1 else 0) ∧
    bitsOf (sealOctets c) 0 0 0 = some (if c.saturated then 1 else 0) ∧
    (c.hits ≤ 255 → fieldOf (sealOctets c) 1 1 = some c.hits) ∧
    (c.dose ≤ 65535 → fieldOf (sealOctets c) 2 2 = some c.dose) := by
  have hlane := c.lane.isLt
  have hcondemned := flag_le_one c.condemned
  have hinhibited := flag_le_one c.inhibited
  have hsaturated := flag_le_one c.saturated
  have first : (sealOctets c)[0]? = some (packed 0x38
      (c.lane.val * 64 + flagAt 2 c.condemned + flagAt 1 c.inhibited + flagAt 0 c.saturated)) := rfl
  simp only [flagAt_eq] at first
  exact ⟨rfl, bitsOf_packed first (by omega), bitsOf_packed first (by omega), bitsOf_packed first (by omega),
    bitsOf_packed first (by omega), fun h => fieldOf_octet (by rfl) h,
    fun h => fieldOf_natHalf (by rfl) h⟩

/-- The part of a PUNCH brief for one card. -/
def punchOctets (c : PunchCard) : List OutOctet :=
  [packed 0x1E (laneBits c.lane + rejectBit c.verdict + flagAt 0 c.inhibited), packed 0 (reasonCode c.reason)]

theorem punchOctets_fields (c : PunchCard) : (punchOctets c).length = 2 ∧ bitsOf (punchOctets c) 0 7 6 = some c.lane.val ∧
    bitsOf (punchOctets c) 0 5 5 = some (if c.verdict = .reject then 1 else 0) ∧
    bitsOf (punchOctets c) 0 0 0 = some (if c.inhibited then 1 else 0) ∧
    fieldOf (punchOctets c) 1 1 = some (reasonCode c.reason) := by
  have hlane := c.lane.isLt
  have hverdict := reject_le_one c.verdict
  have hinhibited := flag_le_one c.inhibited
  have first : (punchOctets c)[0]?
      = some (packed 0x1E (c.lane.val * 64 + rejectBit c.verdict + flagAt 0 c.inhibited)) := rfl
  simp only [flagAt_eq, rejectBit_eq] at first
  exact ⟨rfl, bitsOf_packed first (by omega), bitsOf_packed first (by omega), bitsOf_packed first (by omega),
    fieldOf_octet (by rfl) ((reasonCode_le _).trans (by decide))⟩

/-! ### Records -/

theorem summaryOctets_fields (x : Seal) (hhits : x.hits ≤ 15) (hdose : x.dose ≤ 65535)
    (hmin : ∀ m ∈ x.minPressure, m ≤ 65535) :
    (named (summaryOctets x)).length = 5 ∧ bitsOf (named (summaryOctets x)) 0 7 4 = some x.hits ∧
    bitsOf (named (summaryOctets x)) 0 3 3 = some (if x.saturated then 1 else 0) ∧
    bitsOf (named (summaryOctets x)) 0 2 2 = some (if x.clamped then 1 else 0) ∧
    bitsOf (named (summaryOctets x)) 0 1 1 = some (if x.inhibited then 1 else 0) ∧
    bitsOf (named (summaryOctets x)) 0 0 0 = some (if x.minPressure.isSome then 1 else 0) ∧
    fieldOf (named (summaryOctets x)) 1 2 = some x.dose ∧
    fieldOf (named (summaryOctets x)) 3 2 = some (x.minPressure.getD 0) := by
  have hsaturated := flag_le_one x.saturated
  have hclamped := flag_le_one x.clamped
  have hinhibited := flag_le_one x.inhibited
  have hsome := flag_le_one x.minPressure.isSome
  have first : (named (summaryOctets x))[0]? = some (packed 0 (x.hits * 16 + flagAt 3 x.saturated + flagAt 2 x.clamped
      + flagAt 1 x.inhibited + flagAt 0 x.minPressure.isSome)) := rfl
  simp only [flagAt_eq] at first
  refine ⟨rfl, bitsOf_packed first (by omega), bitsOf_packed first (by omega), bitsOf_packed first (by omega),
    bitsOf_packed first (by omega), bitsOf_packed first (by omega),
    fieldOf_natHalf (by rfl) hdose, fieldOf_natHalf (by rfl) ?_⟩
  cases h : x.minPressure with
  | none => exact Nat.zero_le _
  | some m => exact hmin m h

/-- The octets of a retire record that give a cavity's effective count and its attempts. -/
def tailOctets (r : RetireRecord) : List OutOctet :=
  (r.counts.zip r.attempts).map fun x => packed 0x0C (x.1 * 16 + x.2)

theorem retireOctets_tail (r : RetireRecord) : (retireOctets r).drop 23 = tailOctets r := rfl

theorem length_retireOctets (r : RetireRecord) (h : r.counts.length = r.attempts.length) :
    (retireOctets r).length = 23 + r.counts.length := by
  have head : (retireOctets r).length = (tailOctets r).length + 23 := rfl
  rw [head, tailOctets, List.length_map, List.length_zip, ← h, Nat.min_self, Nat.add_comm]

theorem retireOctets_fourth (r : RetireRecord) : bitsOf (retireOctets r) 4 7 6 = some r.lane.val ∧
    bitsOf (retireOctets r) 4 5 5 = some (if r.verdict = .reject then 1 else 0) ∧
    bitsOf (retireOctets r) 4 2 0 = some (dischargeCode r.discharge) := by
  have hlane := r.lane.isLt
  have hverdict := reject_le_one r.verdict
  have hdischarge := dischargeCode_le r.discharge
  have fourth : (retireOctets r)[4]?
      = some (packed 0x18 (r.lane.val * 64 + rejectBit r.verdict + dischargeCode r.discharge)) := rfl
  rw [rejectBit_eq] at fourth
  exact ⟨bitsOf_packed fourth (by omega), bitsOf_packed fourth (by omega), bitsOf_packed fourth (by omega)⟩

theorem retireOctets_eighth (r : RetireRecord) : bitsOf (retireOctets r) 8 7 4 = some (reasonCode r.reason) ∧
    bitsOf (retireOctets r) 8 3 0 = some (portCode r.station) := by
  have hreason := reasonCode_le r.reason
  have hstation := portCode_le r.station
  have eighth : (retireOctets r)[8]? = some (packed 0 (reasonCode r.reason * 16 + portCode r.station)) := rfl
  exact ⟨bitsOf_packed eighth (by omega), bitsOf_packed eighth (by omega)⟩

theorem retireOctets_cavity (r : RetireRecord) {i n a : Nat} (hn : r.counts[i]? = some n) (ha : r.attempts[i]? = some a)
    (hcount : n ≤ 15) (hattempts : a ≤ 3) :
    bitsOf (retireOctets r) (23 + i) 7 4 = some n ∧ bitsOf (retireOctets r) (23 + i) 1 0 = some a := by
  have here : (retireOctets r)[23 + i]? = some (packed 0x0C (n * 16 + a)) := by
    rw [← List.getElem?_drop, retireOctets_tail, tailOctets, List.getElem?_map,
      (List.getElem?_zip_eq_some (z := (n, a))).2 ⟨hn, ha⟩]
    rfl
  exact ⟨bitsOf_packed here (by omega), bitsOf_packed here (by omega)⟩

theorem cardOctets_sixth (r : CardReport) : bitsOf (cardOctets r) 6 7 6 = some r.card.lane.val ∧
    bitsOf (cardOctets r) 6 5 4 = some (stateCode r.card.state) ∧
    bitsOf (cardOctets r) 6 3 2 = some (verdictCode r.card.verdict) := by
  have hlane := r.card.lane.isLt
  have hstate := stateCode_le r.card.state
  have hverdict := verdictCode_le r.card.verdict
  have sixth : (cardOctets r)[6]? = some (packed 0x03
      (r.card.lane.val * 64 + stateCode r.card.state * 16 + verdictCode r.card.verdict * 4)) := rfl
  exact ⟨bitsOf_packed sixth (by omega), bitsOf_packed sixth (by omega), bitsOf_packed sixth (by omega)⟩

theorem cardOctets_seventh (r : CardReport) : bitsOf (cardOctets r) 7 7 4 = some (reasonCode r.card.reason) ∧
    bitsOf (cardOctets r) 7 2 0 = some (dischargeCode r.card.discharge) := by
  have hreason := reasonCode_le r.card.reason
  have hdischarge := dischargeCode_le r.card.discharge
  have seventh : (cardOctets r)[7]?
      = some (packed 0x08 (reasonCode r.card.reason * 16 + dischargeCode r.card.discharge)) := rfl
  exact ⟨bitsOf_packed seventh (by omega), bitsOf_packed seventh (by omega)⟩

theorem cardOctets_condemnOffset (r : CardReport) (h : ∀ o ∈ r.card.condemnOffset, o ≤ 254) :
    fieldOf (cardOctets r) 9 1 = some (r.card.condemnOffset.getD 255) := by
  refine fieldOf_octet (by rfl) ?_
  cases ho : r.card.condemnOffset with
  | none => exact le_refl _
  | some o => exact (h o ho).trans (by decide)

/-- In a sum of one bit per port at the port's place, the bit at a port's place is the port's. -/
theorem bit_of_portSum (b : Port → Nat) (h : ∀ p, b p ≤ 1) (p : Port) :
    (Port.all.map fun q => 2 ^ portNat q * b q).sum / 2 ^ portNat p % 2 = b p := by
  have h0 := h .p0
  have h1 := h .p1
  have h2 := h .p2
  have h3 := h .p3
  have h4 := h .p4
  have h5 := h .p5
  have h6 := h .p6
  have h7 := h .p7
  simp only [Port.all, List.map_cons, List.map_nil, List.sum_cons, List.sum_nil, portNat]
  cases p <;> simp only [Nat.reducePow] <;> omega

/-- Bit `n` of the reported set is port `n`. -/
theorem cardOctets_reported (r : CardReport) (p : Port) :
    bitsOf (cardOctets r) 10 (portNat p) (portNat p) = some (if r.card.reported.get p then 1 else 0) := by
  have hp := portNat_lt p
  have one : portNat p + 1 - portNat p = 1 := by omega
  have tenth : (cardOctets r)[10]?
      = some (packed 0 ((Port.all.map fun q => flagAt (portNat q) (r.card.reported.get q)).sum)) := rfl
  simp only [flagAt_eq] at tenth
  refine bitsOf_packed tenth ?_ ?_ (by omega) (le_refl _)
  · rw [one]
    exact bit_of_portSum (fun q => if r.card.reported.get q then 1 else 0) (fun q => flag_le_one _) p
  · cases p <;> rfl

theorem talliesOctet_both (low high : Nat) : talliesOctet (some low) (some high) = packed 0 (low * 16 + high) := by
  simp [talliesOctet, packed]

theorem talliesOctet_low (low : Nat) : talliesOctet (some low) none = packed 0x0F (low * 16) := by
  simp [talliesOctet, packed]

theorem talliesOctet_high (high : Nat) : talliesOctet none (some high) = packed 0xF0 high := by
  simp [talliesOctet, packed]

theorem cardOctets_sixteenth (r : CardReport) : (cardOctets r)[16]? = some (talliesOctet r.lowTally r.highTally) := rfl

theorem cardOctets_lowTally (r : CardReport) (hlow : ∀ n ∈ r.lowTally, n ≤ 15) (hhigh : ∀ n ∈ r.highTally, n ≤ 15)
    {n : Nat} (hn : r.lowTally = some n) : bitsOf (cardOctets r) 16 7 4 = some n := by
  have here := cardOctets_sixteenth r
  have bound := hlow n hn
  rw [hn] at here
  cases hm : r.highTally with
  | none =>
    rw [hm, talliesOctet_low] at here
    exact bitsOf_packed here (by omega)
  | some m =>
    have other := hhigh m hm
    rw [hm, talliesOctet_both] at here
    exact bitsOf_packed here (by omega)

theorem cardOctets_highTally (r : CardReport) (hhigh : ∀ n ∈ r.highTally, n ≤ 15) {n : Nat} (hn : r.highTally = some n) :
    bitsOf (cardOctets r) 16 3 0 = some n := by
  have here := cardOctets_sixteenth r
  have bound := hhigh n hn
  rw [hn] at here
  cases hm : r.lowTally with
  | none =>
    rw [hm, talliesOctet_high] at here
    exact bitsOf_packed here (by omega)
  | some m =>
    rw [hm, talliesOctet_both] at here
    exact bitsOf_packed here (by omega)

theorem cavityOctets_counts (c : Cavity) (hattempts : c.attempts ≤ 3) (hplacements : c.placements.length ≤ 7)
    (hcount : c.count ≤ 15) : bitsOf (cavityOctets c) 0 7 6 = some (formCode c.form) ∧
    bitsOf (cavityOctets c) 0 5 4 = some c.attempts ∧ bitsOf (cavityOctets c) 0 2 0 = some c.placements.length ∧
    bitsOf (cavityOctets c) 1 7 4 = some c.count ∧ bitsOf (cavityOctets c) 1 2 0 = some (refillCode c.refill) ∧
    bitsOf (cavityOctets c) 2 7 4 = some (portCode c.orderedBy) ∧
    bitsOf (cavityOctets c) 2 3 0 = some (portCode (c.inspection.map (·.station))) := by
  have hform := formCode_le c.form
  have hrefill := refillCode_le c.refill
  have hordered := portCode_le c.orderedBy
  have hstation := portCode_le (c.inspection.map (·.station))
  have first : (cavityOctets c)[0]?
      = some (packed 0x08 (formCode c.form * 64 + c.attempts * 16 + c.placements.length)) := rfl
  have second : (cavityOctets c)[1]? = some (packed 0x08 (c.count * 16 + refillCode c.refill)) := rfl
  have third : (cavityOctets c)[2]?
      = some (packed 0 (portCode c.orderedBy * 16 + portCode (c.inspection.map (·.station)))) := rfl
  exact ⟨bitsOf_packed first (by omega), bitsOf_packed first (by omega), bitsOf_packed first (by omega),
    bitsOf_packed second (by omega), bitsOf_packed second (by omega),
    bitsOf_packed third (by omega), bitsOf_packed third (by omega)⟩

theorem cavityOctets_inspection (c : Cavity) {i : Inspection} (hi : c.inspection = some i) (hcls : i.classSeen ≤ 63)
    (hcount : i.count ≤ 15) : bitsOf (cavityOctets c) 3 7 2 = some i.classSeen ∧
    bitsOf (cavityOctets c) 3 1 0 = some (orientationCode i.orientation) ∧
    bitsOf (cavityOctets c) 4 7 4 = some i.count := by
  have horientation := orientationCode_le i.orientation
  have third : (cavityOctets c)[3]? = some (packed 0 (i.classSeen * 4 + orientationCode i.orientation)) := by
    rw [cavityOctets, hi]
    rfl
  have fourth : (cavityOctets c)[4]? = some (packed 0x0F (i.count * 16)) := by
    rw [cavityOctets, hi]
    rfl
  exact ⟨bitsOf_packed third (by omega), bitsOf_packed third (by omega), bitsOf_packed fourth (by omega)⟩

theorem cavityOctets_tail (c : Cavity) :
    (cavityOctets c).drop 5 = c.placements.map fun e => packed 0x10 (portNat e.station * 32 + e.count) := by
  unfold cavityOctets
  cases c.inspection <;> rfl

theorem length_cavityOctets (c : Cavity) : (cavityOctets c).length = 5 + c.placements.length := by
  unfold cavityOctets
  cases c.inspection <;> simp [inspectionOctets] <;> omega

theorem cavityOctets_placement (c : Cavity) {i : Nat} {e : Placement} (hi : c.placements[i]? = some e)
    (hcount : e.count ≤ 15) : bitsOf (cavityOctets c) (5 + i) 7 5 = some (portNat e.station) ∧
    bitsOf (cavityOctets c) (5 + i) 3 0 = some e.count := by
  have hport := portNat_lt e.station
  have here : (cavityOctets c)[5 + i]? = some (packed 0x10 (portNat e.station * 32 + e.count)) := by
    rw [← List.getElem?_drop, cavityOctets_tail, List.getElem?_map, hi]
    rfl
  exact ⟨bitsOf_packed here (by omega), bitsOf_packed here (by omega)⟩

/-! ### The obligation -/

/-- Every RESPONSE opens with the kind of the request answered. -/
theorem messageOctets_response (masked : CondSet) (tag : Octet) (a : Response) :
    messageOctets masked (.response tag a) = ⟨responseKind a, 0⟩ :: responseOctets a := rfl

/-- Settles O48: code by code, then RESPONSE by RESPONSE, brief by brief and record by record. -/
theorem payloadLayouts : Obligations.PayloadLayouts := by
  unfold Obligations.PayloadLayouts
  refine ⟨?codes, ?plain, ?station, ?recipe, ?responses, ?form, ?feed, ?inspect, ?topup, ?sealing, ?punch, ?summary, ?retire,
    ?card, ?cavity⟩
  case codes => exact ⟨rfl, rfl, rfl, rfl, rfl, rfl, rfl, rfl, rfl, rfl, rfl, rfl, rfl, fun _ => rfl, rfl⟩
  case plain =>
    exact fun masked _ _ _ _ => ⟨rfl, rfl, rfl, bitsOf_condOctets_high masked, fieldOf_condOctets_low masked, rfl,
      fun _ => rfl, rfl, fun _ => ⟨rfl, rfl⟩, rfl, rfl⟩
  case station => exact fun e _ _ => ⟨rfl, rfl, stationOctets_permissions e⟩
  case recipe =>
    intro r
    unfold recipeOctets
    congr 2
    funext c
    rw [specOctets_eq]
    cases c.feeder <;> rfl
  case responses =>
    refine fun masked tag => ⟨fun _ _ _ => rfl, fun _ => rfl, fun _ => rfl, fun _ _ => rfl, fun _ _ _ => rfl, fun _ => rfl,
      rfl, fun _ _ => rfl, fun _ _ => rfl, fun _ _ _ => rfl, fun _ => rfl, fun _ _ _ => rfl, fun _ => rfl, fun _ _ => rfl,
      ?lineStatus, fun _ => rfl, fun _ _ _ _ => rfl, fun _ => rfl, fun _ _ _ _ _ _ => ⟨rowCardOctets, rfl, rowCardOctets_fields⟩,
      ?traceStatus, fun _ => rfl, fun _ _ => rfl, fun _ _ _ => rfl, fun _ _ => ⟨rfl, rfl, rfl⟩⟩
    case lineStatus =>
      rintro ⟨line, indexCount, _ | last, timeTag, interval, _ | selected, exitOffset, sealOffset, rows, _ | ⟨low, high⟩,
        uses⟩ <;> rfl
    case traceStatus =>
      intro r
      obtain ⟨hready, hhold⟩ := traceOctets_flags ⟨0x22, 0⟩ r
      refine ⟨rfl, hready, hhold, ?_⟩
      obtain ⟨occupancy, free, notify, holdLevel, ready, hold, _ | ⟨row, lane⟩⟩ := r
      · rfl
      · rfl
  case form => exact fun _ _ _ _ _ => rfl
  case feed =>
    exact ⟨feedOctets, fun _ _ _ _ => rfl, fun c => by
      obtain ⟨hlength, hlane, hflag, hcount⟩ := feedOctets_head c
      exact ⟨hlength, hlane, hflag, hcount, fun _ _ _ _ => feedOctets_cavity c⟩⟩
  case inspect =>
    exact ⟨inspectOctets, fun _ _ _ _ => rfl, fun c => by
      obtain ⟨hlength, hlane, hflag⟩ := inspectOctets_head c
      exact ⟨hlength, hlane, hflag, fun _ _ => inspectOctets_cavity c⟩⟩
  case topup => exact ⟨orderOctets, briefOctets_topup, fun x => ⟨rfl, orderOctets_field x⟩⟩
  case sealing => exact ⟨sealOctets, fun _ _ _ _ _ _ _ => rfl, sealOctets_fields⟩
  case punch => exact ⟨punchOctets, fun _ _ _ => rfl, punchOctets_fields⟩
  case summary => exact summaryOctets_fields
  case retire =>
    intro r hlength hcount
    obtain ⟨hlane, hverdict, hdischarge⟩ := retireOctets_fourth r
    obtain ⟨hreason, hstation⟩ := retireOctets_eighth r
    exact ⟨length_retireOctets r hlength, fieldOf_word (by rfl), hlane, hverdict, hdischarge,
      fieldOf_octet (by rfl) (by omega), fieldOf_half (by rfl), hreason, hstation, fieldOf_word (by rfl),
      fieldOf_word (by rfl), rfl, fieldOf_octet (by rfl) hcount, fun _ _ _ => retireOctets_cavity r⟩
  case card =>
    intro r hoffset hcondemn hcavities hlow hhigh
    obtain ⟨hlane, hstate, hverdict⟩ := cardOctets_sixth r
    obtain ⟨hreason, hdischarge⟩ := cardOctets_seventh r
    exact ⟨fieldOf_word (by rfl), fieldOf_octet (by rfl) hoffset, fieldOf_octet (by rfl) (by omega), hlane, hstate, hverdict,
      hreason, hdischarge, fieldOf_octet (by rfl) ((portCode_le _).trans (by decide)), cardOctets_condemnOffset r hcondemn,
      cardOctets_reported r, rfl, fun _ => cardOctets_lowTally r hlow hhigh, fun _ => cardOctets_highTally r hhigh,
      fieldOf_octet (by rfl) hcavities, rfl⟩
  case cavity =>
    intro c hattempts hplacements hcount
    obtain ⟨hform, hatt, hplaced, heffective, hrefill, hordered, hstation⟩ :=
      cavityOctets_counts c hattempts hplacements hcount
    exact ⟨length_cavityOctets c, hform, hatt, hplaced, heffective, hrefill, hordered, hstation,
      fun _ => cavityOctets_inspection c, fun _ _ => cavityOctets_placement c⟩

end Sys2Proof.Machine
